-- ==== Sys2Proof/Word.lean ====
section
/-! DEFINITION. The word of this hardware: the unsigned 8-bit byte, and sequences of bytes (00_scope.md R7, 20_memory.md R60). -/

namespace Sys2Proof

/-- A byte, 0 to 255, bit 7 the most significant (00_scope.md R7). -/
abbrev Byte := BitVec 8

/-- A byte sequence, indexed from 0 (00_scope.md R7). -/
abbrev Bytes := List Byte

end Sys2Proof
end

