-- ==== Sys2Proof/Config.lean ====
section
/-! DEFINITION. The constants of 00_scope.md R6, the static parameters of one engine (10_state.md R34, 00_scope.md R6), and the free values: opaque constants nothing can evaluate, for what the spec leaves OPEN or to the environment. -/

namespace Sys2Proof

namespace Config

/-! ### Constants (00_scope.md R6, origin "source") -/

/-- Frame start. -/
abbrev stx : Byte := 0x02
/-- End of the checksummed part. -/
abbrev etx : Byte := 0x03
/-- Frame end. -/
abbrev cr : Byte := 0x0D
abbrev cmdAck : Byte := 0x30
abbrev cmdNack : Byte := 0x31
abbrev cmdUid : Byte := 0x49
/-- ROM version and mode read share it. -/
abbrev cmdRdParam : Byte := 0x4F
abbrev detRomver : Byte := 0x90
abbrev detRdmode : Byte := 0x00
abbrev cmdWrmode : Byte := 0x4E
abbrev cmdInventory : Byte := 0x78
abbrev detInvUid : Byte := 0xF0
abbrev cmdBuzzer : Byte := 0x42
/-- NACK code "checksum mismatch". -/
abbrev nackSum : Byte := 0x42
/-- NACK code "format/parameter error". -/
abbrev nackFmt : Byte := 0x44
/-- The mode byte WRMODE forces. -/
abbrev modeCommand : Byte := 0x00
/-- MIN_FRAME: header and footer. -/
abbrev minFrame : Nat := 7
/-- MAX_FRAME: 4 + 255 + 3. -/
abbrev maxFrame : Nat := 262

end Config

/-- A name of MODE_NAME_TABLE (45_translators.md R252): COMMAND_MODE is the one the spec gives, a `listed` name stands for a name it does not give. -/
inductive ModeName where
  | commandMode
  | listed (label : Nat)
deriving DecidableEq, Repr, Inhabited

/-- The static parameters of one engine: the CFG registers of 10_state.md R34 and the other instance parameters of 00_scope.md R6 (log 11). No step writes any of them (D40). -/
structure Cfg where
  /-- CFG_ADDR: the address byte of every request frame. -/
  addr : Byte
  /-- CFG_POLL_MS: the argument of every `T.read_byte`. -/
  pollMs : Nat
  /-- CFG_BACKOFF_MS: the argument of every `Sleep`. -/
  backoffMs : Nat
  /-- CFG_SILENCE_MS: the threshold of the silence rule. -/
  silenceMs : Nat
  /-- CFG_TARGET_RAM: the first payload byte of the mode-write request. -/
  targetRam : Byte
  /-- INV_REQ_EXTRA: what follows the detail code in the inventory request (D21). -/
  invReqExtra : Bytes
  /-- MODE_NAME_TABLE: key and name (R252, D31). -/
  modeNames : List (Byte × ModeName)
  /-- BUZZER_SET_MEANS_ON (D29). -/
  buzzerSetMeansOn : Bool
  /-- VALIDATE_CHECKS_STX (D7). -/
  checksStx : Bool
deriving DecidableEq, Repr

/-- What the spec demands of the parameters: INV_REQ_EXTRA of length 0 to 254 (D21); MODE_NAME_TABLE a partial map with exactly ten keys, 0x00 named COMMAND_MODE (R252). -/
abbrev Cfg.WF (c : Cfg) : Prop :=
  c.invReqExtra.length ≤ 254 ∧ c.modeNames.length = 10 ∧ (c.modeNames.map Prod.fst).Nodup ∧
    (Config.modeCommand, ModeName.commandMode) ∈ c.modeNames

namespace Config

/-! ### Free values: no body, nothing evaluates them -/

/-- FREE: TARGET_RAM, an OPEN parameter (00_scope.md R6, D18; log 10). -/
opaque targetRam : Byte

/-- FREE: the bytes INV_REQ_EXTRA is cut from (00_scope.md R6, D21; log 10). -/
opaque freeInvReqExtra : Bytes

/-- FREE: which of the bytes still unused is the n-th key of MODE_NAME_TABLE beside 0x00 (45_translators.md R252, D31; log 10). -/
opaque freeModePick : Nat → Nat

/-- FREE: the name MODE_NAME_TABLE gives a key other than 0x00 (45_translators.md R252; log 10). -/
opaque freeModeName : Byte → ModeName

/-- FREE: how far the n-th unscripted answer of `Now()` lies above the last answer (10_state.md R36; log 6). -/
opaque freeAdvance : Nat → Nat

/-- FREE: the n-th unscripted answer of `T.write` (20_memory.md R62; log 6). -/
opaque freeWrite : Nat → Bool

/-- FREE: the n-th unscripted answer of `T.read_byte` (20_memory.md R64; log 6). -/
opaque freeRead : Nat → Option Byte

/-- Takes `n` keys out of `pool`, one after the other, the choice of each left free: every choice of `n` different keys is some choice function's. -/
def pickKeys (choice : Nat → Nat) : Nat → Bytes → Bytes
  | 0, _ => []
  | n + 1, pool =>
    let key := pool.getD (choice n % pool.length) 0
    key :: pickKeys choice n (pool.erase key)

/-- The bytes 0x01 to 0xFF. -/
def otherKeys : Bytes := (List.range 255).map fun n => BitVec.ofNat 8 (n + 1)

/-- MODE_NAME_TABLE of this engine: 0x00 named COMMAND_MODE and nine free keys with free names (R252, D31). -/
def modeNames : List (Byte × ModeName) :=
  (modeCommand, .commandMode) :: (pickKeys freeModePick 9 otherKeys).map fun k => (k, freeModeName k)

end Config

/-- The parameters at their defaults (00_scope.md R6), the OPEN ones free. -/
def Cfg.default : Cfg where
  addr := 0x00
  pollMs := 10
  backoffMs := 1
  silenceMs := 120
  targetRam := Config.targetRam
  invReqExtra := Config.freeInvReqExtra.take 254
  modeNames := Config.modeNames
  buzzerSetMeansOn := true
  checksStx := false

end Sys2Proof
end

