-- ==== Sys2Proof/Syntax.lean ====
section
/-! DEFINITION. The instructions: one constructor per row of spec/opcode_table.json. The thirteen HOSTOP rows are the host operations of 30_encoding.md R112, the nine FRAME rows the frame types of 30_encoding.md R110 ("the second, lower instruction level", 00_scope.md R10). -/

namespace Sys2Proof

/-- An instruction, with its operands (30_encoding.md R110, R112). -/
inductive Instr where
  /-- BUILD, 0x1: build a frame (R131). -/
  | build (addr cmd : Byte) (payload : Bytes)
  /-- VALIDATE, 0x2 (R134). -/
  | validate (bytes : Bytes)
  /-- LASTFRAME, 0x3 (R137). -/
  | lastframe (bytes : Bytes)
  /-- RBCLR, 0x4 (R151). -/
  | rbclr
  /-- FEED, 0x5 (R152). -/
  | feed (b : Byte)
  /-- TRANSACT, 0x6 (R170). -/
  | transact (cmdBytes : Bytes) (budgetMs : Nat) (stopOnTerminal : Bool)
  /-- RDFW, 0x7 (R193). -/
  | rdfw (budgetMs : Nat)
  /-- RDMODE, 0x8 (R199). -/
  | rdmode (budgetMs : Nat)
  /-- WRMODE, 0x9 (R204). -/
  | wrmode (budgetMs : Nat)
  /-- BUZZER, 0xA (R210). -/
  | buzzer (responseType soundType : Byte) (budgetMs : Nat)
  /-- INVENTORY, 0xB (R220). -/
  | inventory (budgetMs : Nat)
  /-- DECMODE, 0xC (R251). -/
  | decmode (raw : Bytes)
  /-- DECNACK, 0xD (R261). -/
  | decnack (frame : Bytes)
  /-- REQ_ROMVER, transmitted (R95). -/
  | reqRomver (addr : Byte)
  /-- REQ_RDMODE, transmitted (R96). -/
  | reqRdmode (addr : Byte)
  /-- REQ_WRMODE, transmitted (R97). -/
  | reqWrmode (addr targetRam flags : Byte)
  /-- REQ_INVENTORY, transmitted (R98). -/
  | reqInventory (addr : Byte) (extra : Bytes)
  /-- REQ_BUZZER, transmitted (R100). -/
  | reqBuzzer (addr responseType soundType : Byte)
  /-- RSP_ACK, received (R101). -/
  | rspAck (addr : Byte) (payload : Bytes)
  /-- RSP_NACK, received (R102). -/
  | rspNack (addr : Byte) (payload : Bytes)
  /-- RSP_UID, received (R103). -/
  | rspUid (addr : Byte) (payload : Bytes)
  /-- RSP_OTHER, received: a command code none of the three above (R105). -/
  | rspOther (addr cmd : Byte) (payload : Bytes)
deriving DecidableEq, Repr

end Sys2Proof
end

