-- ==== Sys2Proof/WellFormed.lean ====
section
/-! DEFINITION. Which terms of `Instr` are instructions: the operand ranges of 30_encoding.md R110 and R112. -/

namespace Sys2Proof

/-- A payload one LEN byte can announce (30_encoding.md R91, D41). -/
def payloadFits (p : Bytes) : Bool := p.length ≤ 255

/-- The command codes that have a response row of their own (30_encoding.md R105). -/
def isClassified (cmd : Byte) : Bool :=
  cmd == Config.cmdAck || cmd == Config.cmdNack || cmd == Config.cmdUid

/-- The checks: a payload holds at most 255 bytes (R91, R131), INV_REQ_EXTRA at most 254 (D21), RSP_OTHER has none of the three classified command codes (R105). Every other operand takes any value. -/
def Instr.wf : Instr → Bool
  | .build _ _ payload => payloadFits payload
  | .validate _ => true
  | .lastframe _ => true
  | .rbclr => true
  | .feed _ => true
  | .transact _ _ _ => true
  | .rdfw _ => true
  | .rdmode _ => true
  | .wrmode _ => true
  | .buzzer _ _ _ => true
  | .inventory _ => true
  | .decmode _ => true
  | .decnack _ => true
  | .reqRomver _ => true
  | .reqRdmode _ => true
  | .reqWrmode _ _ _ => true
  | .reqInventory _ extra => extra.length ≤ 254
  | .reqBuzzer _ _ _ => true
  | .rspAck _ payload => payloadFits payload
  | .rspNack _ payload => payloadFits payload
  | .rspUid _ payload => payloadFits payload
  | .rspOther _ cmd payload => !isClassified cmd && payloadFits payload

/-- The thirteen operations the host may request (30_encoding.md R112). -/
def Instr.isHostOp : Instr → Bool
  | .build _ _ _ => true
  | .validate _ => true
  | .lastframe _ => true
  | .rbclr => true
  | .feed _ => true
  | .transact _ _ _ => true
  | .rdfw _ => true
  | .rdmode _ => true
  | .wrmode _ => true
  | .buzzer _ _ _ => true
  | .inventory _ => true
  | .decmode _ => true
  | .decnack _ => true
  | .reqRomver _ => false
  | .reqRdmode _ => false
  | .reqWrmode _ _ _ => false
  | .reqInventory _ _ => false
  | .reqBuzzer _ _ _ => false
  | .rspAck _ _ => false
  | .rspNack _ _ => false
  | .rspUid _ _ => false
  | .rspOther _ _ _ => false

end Sys2Proof
end

