-- ==== Sys2Proof/Decode.lean ====
section
/-! DEFINITION. Encodings: the frame format (30_encoding.md R91 to R94), the pure frame codec every level uses (40_framecodec.md R131, R134, R136, R137), the decoder of host requests and of frames, total and rejecting by name, and the encoder. -/

namespace Sys2Proof

/-! ### The frame codec -/

/-- `s[i]`; every use is inside the sequence, or behind a length test (00_scope.md R7). -/
def byteAt (s : Bytes) (i : Nat) : Byte := s.getD i 0

/-- SUM8: the sum of all bytes modulo 256, carries discarded; 0 for the empty sequence (30_encoding.md R93, 40_framecodec.md R133). -/
def sum8 : Bytes → Byte
  | [] => 0
  | b :: rest => b + sum8 rest

/-- STX, ADDR, CMD, LEN, the payload and ETX: the checksummed part of a frame (30_encoding.md R91, R93). -/
def frameBody (addr cmd : Byte) (payload : Bytes) : Bytes :=
  [Config.stx, addr, cmd, BitVec.ofNat 8 payload.length] ++ payload ++ [Config.etx]

/-- The frame with these fields: the function BUILD (40_framecodec.md R131). -/
def buildFrame (addr cmd : Byte) (payload : Bytes) : Bytes :=
  frameBody addr cmd payload ++ [sum8 (frameBody addr cmd payload), Config.cr]

/-- `need = 4 + LEN + 3`, the length the LEN byte announces, 7 to 262 (30_encoding.md R92, 41_reassembler.md R152 step 4). -/
def needOf (s : Bytes) : Nat := 4 + (byteAt s 3).toNat + 3

/-- The function VALIDATE (40_framecodec.md R134): length at least 7, LEN agrees with the length, ETX, CR and SUM8 at their places, and byte 0 is STX only where VALIDATE_CHECKS_STX asks for it. -/
def validateFrame (checksStx : Bool) (b : Bytes) : Bool :=
  decide (Config.minFrame ≤ b.length) && decide (needOf b = b.length) &&
  byteAt b (b.length - 3) == Config.etx && byteAt b (b.length - 1) == Config.cr &&
  byteAt b (b.length - 2) == sum8 (b.take (b.length - 2)) &&
  (!checksStx || byteAt b 0 == Config.stx)

/-- `ADDR(f) = f[1]` (00_scope.md R7, 40_framecodec.md R136). -/
def frameAddr (f : Bytes) : Byte := byteAt f 1

/-- `CMD(f) = f[2]` (00_scope.md R7, 40_framecodec.md R136). -/
def frameCmd (f : Bytes) : Byte := byteAt f 2

/-- `LEN(f) = f[3]`, as the natural 0 to 255 (00_scope.md R7, 30_encoding.md R106 (a)). -/
def frameLen (f : Bytes) : Nat := (byteAt f 3).toNat

/-- `PAYLOAD(f) = f[4 .. 4+LEN(f))` (00_scope.md R7). -/
def framePayload (f : Bytes) : Bytes := (f.drop 4).take (frameLen f)

/-- The LASTFRAME walk from a frame boundary on: each step looks at the LEN byte only, the last complete slice is kept, an incomplete step ends the walk (40_framecodec.md R137). The fuel bounds the number of steps; a sequence takes fewer steps than it has bytes. -/
def lastFrameWalk : Nat → Bytes → Option Bytes → Option Bytes
  | 0, _, last => last
  | fuel + 1, b, last =>
    if b.length < 4 then last
    else if b.length < needOf b then last
    else lastFrameWalk fuel (b.drop (needOf b)) (some (b.take (needOf b)))

/-- The function LASTFRAME (40_framecodec.md R137). -/
def lastFrame (b : Bytes) : Option Bytes := lastFrameWalk b.length b none

/-! ### What is decoded -/

/-- An operand of a request, an abstract value (30_encoding.md R111). -/
inductive Arg where
  | byte (b : Byte)
  | nat (n : Nat)
  | flag (v : Bool)
  | bytes (s : Bytes)
deriving DecidableEq, Repr

/-- A host request: `(op_code[3:0], operands)` (30_encoding.md R111). -/
structure Request where
  opCode : BitVec 4
  args : List Arg
deriving DecidableEq, Repr

/-- What an encoded instruction is on its port: a request on the operation port, or a frame on the transmit or the receive stream (30_encoding.md R110, R111). -/
inductive Code where
  | host (r : Request)
  | tx (f : Bytes)
  | rx (f : Bytes)
deriving DecidableEq, Repr

/-- Why the decoder rejects. -/
inductive DecodeError where
  /-- Op codes 0x0, 0xE, 0xF (30_encoding.md R113). -/
  | reservedOpCode
  /-- The operands have not the shape R112 fixes for the op code (log 3). -/
  | operandShape
  /-- BUILD with more than 255 payload bytes (93_implementation_defined.md U1). -/
  | payloadTooLong
  /-- The bytes are no frame: they fail VALIDATE, or do not start with STX (30_encoding.md R91). -/
  | notAFrame
  /-- A frame on the transmit stream that is none of the five request types (30_encoding.md R110). -/
  | unknownRequest
deriving DecidableEq, Repr

/-! ### The decoder -/

/-- Reads a host request (30_encoding.md R112, R113). -/
def decodeHost (r : Request) : Except DecodeError Instr :=
  match r.opCode.toNat, r.args with
  | 0x1, [.byte addr, .byte cmd, .bytes payload] =>
    if payloadFits payload then .ok (.build addr cmd payload) else .error .payloadTooLong
  | 0x2, [.bytes b] => .ok (.validate b)
  | 0x3, [.bytes b] => .ok (.lastframe b)
  | 0x4, [] => .ok .rbclr
  | 0x5, [.byte b] => .ok (.feed b)
  | 0x6, [.bytes cmdBytes, .nat budgetMs, .flag stop] => .ok (.transact cmdBytes budgetMs stop)
  | 0x7, [.nat budgetMs] => .ok (.rdfw budgetMs)
  | 0x8, [.nat budgetMs] => .ok (.rdmode budgetMs)
  | 0x9, [.nat budgetMs] => .ok (.wrmode budgetMs)
  | 0xA, [.byte responseType, .byte soundType, .nat budgetMs] =>
    .ok (.buzzer responseType soundType budgetMs)
  | 0xB, [.nat budgetMs] => .ok (.inventory budgetMs)
  | 0xC, [.bytes raw] => .ok (.decmode raw)
  | 0xD, [.bytes frame] => .ok (.decnack frame)
  | 0x0, _ => .error .reservedOpCode
  | 0xE, _ => .error .reservedOpCode
  | 0xF, _ => .error .reservedOpCode
  | _, _ => .error .operandShape

/-- Which request type the fields of a transmitted frame are (30_encoding.md R95 to R98, R100). -/
def requestOfFields (addr cmd : Byte) (payload : Bytes) : Except DecodeError Instr :=
  if cmd = Config.cmdRdParam then
    if payload = [Config.detRomver] then .ok (.reqRomver addr)
    else if payload = [Config.detRdmode] then .ok (.reqRdmode addr)
    else .error .unknownRequest
  else if cmd = Config.cmdWrmode then
    match payload with
    | [target, mode, r2, flags, r4, r5, r6] =>
      if mode = Config.modeCommand ∧ r2 = 0 ∧ r4 = 0 ∧ r5 = 0 ∧ r6 = 0 then
        .ok (.reqWrmode addr target flags)
      else .error .unknownRequest
    | _ => .error .unknownRequest
  else if cmd = Config.cmdInventory then
    match payload with
    | detail :: extra =>
      if detail = Config.detInvUid then .ok (.reqInventory addr extra) else .error .unknownRequest
    | [] => .error .unknownRequest
  else if cmd = Config.cmdBuzzer then
    match payload with
    | [responseType, soundType] => .ok (.reqBuzzer addr responseType soundType)
    | _ => .error .unknownRequest
  else .error .unknownRequest

/-- The response type of the fields of a received frame: by CMD only, rows tried in the order RSP_ACK, RSP_NACK, RSP_UID, RSP_OTHER (30_encoding.md R101 to R105, R116). -/
def responseOfFields (addr cmd : Byte) (payload : Bytes) : Instr :=
  if cmd = Config.cmdAck then .rspAck addr payload
  else if cmd = Config.cmdNack then .rspNack addr payload
  else if cmd = Config.cmdUid then .rspUid addr payload
  else .rspOther addr cmd payload

/-- Reads a frame of the transmit stream. -/
def decodeTx (f : Bytes) : Except DecodeError Instr :=
  if validateFrame true f then requestOfFields (frameAddr f) (frameCmd f) (framePayload f)
  else .error .notAFrame

/-- Reads a frame of the receive stream; only frames that passed VALIDATE are classified (30_encoding.md R116). -/
def decodeRx (f : Bytes) : Except DecodeError Instr :=
  if validateFrame true f then .ok (responseOfFields (frameAddr f) (frameCmd f) (framePayload f))
  else .error .notAFrame

/-- The decoder, total on anything a port can carry. -/
def decode : Code → Except DecodeError Instr
  | .host r => decodeHost r
  | .tx f => decodeTx f
  | .rx f => decodeRx f

/-! ### The encoder -/

/-- Payload of REQ_ROMVER (30_encoding.md R95). -/
def romverPayload : Bytes := [Config.detRomver]

/-- Payload of REQ_RDMODE (30_encoding.md R96). -/
def rdmodePayload : Bytes := [Config.detRdmode]

/-- Payload of REQ_WRMODE: target, command mode, reserved, flags, three zeros (30_encoding.md R97, 43_commandset.md R205). -/
def wrmodePayload (targetRam flags : Byte) : Bytes :=
  [targetRam, Config.modeCommand, 0x00, flags, 0x00, 0x00, 0x00]

/-- Payload of REQ_INVENTORY (30_encoding.md R98). -/
def inventoryPayload (extra : Bytes) : Bytes := Config.detInvUid :: extra

/-- Payload of REQ_BUZZER (30_encoding.md R100). -/
def buzzerPayload (responseType soundType : Byte) : Bytes := [responseType, soundType]

/-- The encoding of an instruction: the op code and operands of 30_encoding.md R112, or the frame bytes of R95 to R105. -/
def encode : Instr → Code
  | .build addr cmd payload => .host ⟨0x1, [.byte addr, .byte cmd, .bytes payload]⟩
  | .validate b => .host ⟨0x2, [.bytes b]⟩
  | .lastframe b => .host ⟨0x3, [.bytes b]⟩
  | .rbclr => .host ⟨0x4, []⟩
  | .feed b => .host ⟨0x5, [.byte b]⟩
  | .transact cmdBytes budgetMs stop => .host ⟨0x6, [.bytes cmdBytes, .nat budgetMs, .flag stop]⟩
  | .rdfw budgetMs => .host ⟨0x7, [.nat budgetMs]⟩
  | .rdmode budgetMs => .host ⟨0x8, [.nat budgetMs]⟩
  | .wrmode budgetMs => .host ⟨0x9, [.nat budgetMs]⟩
  | .buzzer responseType soundType budgetMs =>
    .host ⟨0xA, [.byte responseType, .byte soundType, .nat budgetMs]⟩
  | .inventory budgetMs => .host ⟨0xB, [.nat budgetMs]⟩
  | .decmode raw => .host ⟨0xC, [.bytes raw]⟩
  | .decnack frame => .host ⟨0xD, [.bytes frame]⟩
  | .reqRomver addr => .tx (buildFrame addr Config.cmdRdParam romverPayload)
  | .reqRdmode addr => .tx (buildFrame addr Config.cmdRdParam rdmodePayload)
  | .reqWrmode addr target flags => .tx (buildFrame addr Config.cmdWrmode (wrmodePayload target flags))
  | .reqInventory addr extra => .tx (buildFrame addr Config.cmdInventory (inventoryPayload extra))
  | .reqBuzzer addr responseType soundType =>
    .tx (buildFrame addr Config.cmdBuzzer (buzzerPayload responseType soundType))
  | .rspAck addr payload => .rx (buildFrame addr Config.cmdAck payload)
  | .rspNack addr payload => .rx (buildFrame addr Config.cmdNack payload)
  | .rspUid addr payload => .rx (buildFrame addr Config.cmdUid payload)
  | .rspOther addr cmd payload => .rx (buildFrame addr cmd payload)

/-! ### The opcode table's own words (30_encoding.md R116) -/

/-- `H = f[0]<<32 | f[1]<<24 | f[2]<<16 | f[3]<<8 | f[4]`, with `f[4]` taken as 0 when LEN = 0 (30_encoding.md R116). -/
def headerWord (f : Bytes) : Nat :=
  (byteAt f 0).toNat * 2 ^ 32 + (byteAt f 1).toNat * 2 ^ 24 + (byteAt f 2).toNat * 2 ^ 16 +
    (byteAt f 3).toNat * 2 ^ 8 + (if frameLen f = 0 then 0 else (byteAt f 4).toNat)

/-- The `match` and `mask` of a row of spec/opcode_table.json: over the 4-bit op code for a host operation, over the header word for a frame (30_encoding.md R116). -/
def Instr.tableRow : Instr → Nat × Nat
  | .build _ _ _ => (0x1, 0xF)
  | .validate _ => (0x2, 0xF)
  | .lastframe _ => (0x3, 0xF)
  | .rbclr => (0x4, 0xF)
  | .feed _ => (0x5, 0xF)
  | .transact _ _ _ => (0x6, 0xF)
  | .rdfw _ => (0x7, 0xF)
  | .rdmode _ => (0x8, 0xF)
  | .wrmode _ => (0x9, 0xF)
  | .buzzer _ _ _ => (0xA, 0xF)
  | .inventory _ => (0xB, 0xF)
  | .decmode _ => (0xC, 0xF)
  | .decnack _ => (0xD, 0xF)
  | .reqRomver _ => (0x02004F0190, 0xFF00FFFFFF)
  | .reqRdmode _ => (0x02004F0100, 0xFF00FFFFFF)
  | .reqWrmode _ _ _ => (0x02004E0700, 0xFF00FFFF00)
  | .reqInventory _ _ => (0x02007800F0, 0xFF00FF00FF)
  | .reqBuzzer _ _ _ => (0x0200420200, 0xFF00FFFF00)
  | .rspAck _ _ => (0x0200300000, 0xFF00FF0000)
  | .rspNack _ _ => (0x0200310000, 0xFF00FF0000)
  | .rspUid _ _ => (0x0200490000, 0xFF00FF0000)
  | .rspOther _ _ _ => (0x0200000000, 0xFF00000000)

/-- The table word of an encoded instruction: its op code, or the header word of its frame. -/
def Code.tableWord : Code → Nat
  | .host r => r.opCode.toNat
  | .tx f => headerWord f
  | .rx f => headerWord f

/-- Operands of zeros in the shape R112 fixes for an op code (log 4). -/
def zeroOperands (opCode : BitVec 4) : List Arg :=
  match opCode.toNat with
  | 0x1 => [.byte 0, .byte 0, .bytes []]
  | 0x2 => [.bytes []]
  | 0x3 => [.bytes []]
  | 0x5 => [.byte 0]
  | 0x6 => [.bytes [], .nat 0, .flag false]
  | 0x7 => [.nat 0]
  | 0x8 => [.nat 0]
  | 0x9 => [.nat 0]
  | 0xA => [.byte 0, .byte 0, .nat 0]
  | 0xB => [.nat 0]
  | 0xC => [.bytes []]
  | 0xD => [.bytes []]
  | _ => []

/-- Byte `i` of a 40-bit header word, byte 0 the most significant (30_encoding.md R116). -/
def headerByte (w i : Nat) : Byte := BitVec.ofNat 8 (w >>> (8 * (4 - i)))

/-- The payload a header word stands for: LEN bytes, the first of them `f[4]`, the rest zeros; where the word has a fifth byte and LEN 0, that one byte (log 4). -/
def headerPayload (w : Nat) : Bytes :=
  if (headerByte w 3).toNat = 0 then
    if headerByte w 4 = 0 then [] else [headerByte w 4]
  else headerByte w 4 :: List.replicate ((headerByte w 3).toNat - 1) 0

/-- What a word of the opcode table is on its port: 4 bits (a byte) are an op code with operands of zeros; 40 bits are the header word of a frame, completed by its footer, a request if it is one of the five, else a response (log 4). -/
def codeOfTableWord (nbits w : Nat) : Option Code :=
  if nbits ≤ 8 then
    some (.host ⟨BitVec.ofNat 4 w, zeroOperands (BitVec.ofNat 4 w)⟩)
  else if nbits = 40 ∧ headerByte w 0 = Config.stx then
    let f := buildFrame (headerByte w 1) (headerByte w 2) (headerPayload w)
    match decodeTx f with
    | .ok _ => some (.tx f)
    | .error _ => some (.rx f)
  else none

/-- The instruction the decoder reads from a word of the opcode table (log 4). -/
def decodeTableWord (nbits w : Nat) : Option Instr :=
  match codeOfTableWord nbits w with
  | some c =>
    match decode c with
    | .ok i => some i
    | .error _ => none
  | none => none

end Sys2Proof
end

