-- ==== Sys2Proof/Machine/State.lean ====
section
/-! DEFINITION. The state of the machine as plain data (10_state.md R20 to R42), the reasons a step can stop, and the state after reset. -/

namespace Sys2Proof.Machine

/-! ### Enumerations of the spec -/

/-- The `ST_*` codes (60_exceptions.md R271). -/
inductive Status where
  | ok
  | failWrite
  | failNoframe
  | failBadresp
  | nackSum
  | nackFmt
  | nackUnknown
  | failPrecond
  | noTags
  | busy
  | illegalOp
  | terminal
  | timeout
deriving DecidableEq, Repr

/-- The `ER_*` values of ERR (10_state.md R26, 60_exceptions.md R272). -/
inductive InvError where
  | clear
  | nackSum
  | nackFmt
  | nackUnknown
  | noTags
  | writeFailed
deriving DecidableEq, Repr

/-- The `NK_*` kinds (45_translators.md R261). -/
inductive NackKind where
  | sum
  | fmt
  | unknown
  | invalid
deriving DecidableEq, Repr

/-- RES_NACK: the kind and the code byte, `none` for NONE (10_state.md R33, 45_translators.md R261). -/
structure Nack where
  kind : NackKind
  code : Option Byte
deriving DecidableEq, Repr

/-! The six fields of ReaderModePretty (45_translators.md R258). -/

inductive ModeField where
  | empty
  | named (name : ModeName)
  | unknown (mode : Byte)
deriving DecidableEq, Repr

inductive Anticollision where
  | empty
  | enabled
  | disabled
deriving DecidableEq, Repr

inductive ReadBehavior where
  | empty
  | continuous
  | singleShot
deriving DecidableEq, Repr

inductive BuzzerField where
  | empty
  | on
  | off
deriving DecidableEq, Repr

inductive TxData where
  | empty
  | userDataOnly
  | userDataPlusUid
deriving DecidableEq, Repr

inductive Baud where
  | empty
  | b19200
  | b9600
  | b38400
  | b115200
deriving DecidableEq, Repr

/-- RES_PRETTY, and the value of the view MODE_PRETTY (10_state.md R31, R33). -/
structure Pretty where
  modeName : ModeField
  anticollision : Anticollision
  readBehavior : ReadBehavior
  buzzer : BuzzerField
  txData : TxData
  baud : Baud
deriving DecidableEq, Repr

/-- All fields EMPTY (10_state.md R33, 45_translators.md R256). -/
def Pretty.empty : Pretty := ⟨.empty, .empty, .empty, .empty, .empty, .empty⟩

/-- PHASE, the position in the operation in progress (10_state.md R32). -/
inductive Phase where
  | idle
  | start
  | send
  | check
  | poll
  | backoff
  | scan
  | finish
deriving DecidableEq, Repr

/-- An InventoryItem: `uid[0]` is the most significant byte (10_state.md R23, 20_memory.md R67). -/
structure Item where
  uid : Vector Byte 8
  dsfid : Byte
deriving DecidableEq, Repr

/-! ### Trace events (60_exceptions.md R301) -/

/-- The operations a comment names. -/
inductive OpName where
  | rdfw
  | rdmode
  | wrmode
  | buzzer
  | inventory
deriving DecidableEq, Repr

/-- The comment codes `CM_*`. -/
inductive Comment where
  | opStart (op : OpName)
  | writeFailed
  | timeout
  | noFrame
  | badResp
  | precond
  | nack (kind : NackKind)
  | value (op : OpName)
  | noTags
deriving DecidableEq, Repr

/-- An event of the trace port, its tag the constructor's name. -/
inductive Event where
  | send (bytes : Bytes)
  | recv (bytes : Bytes)
  | cmt (code : Comment)
deriving DecidableEq, Repr

/-! ### The environment -/

/-- A call of a primitive that reaches a port (00_scope.md R9), with its argument and, for the transport, its answer: ghost data, never read (log 6). -/
inductive PortCall where
  | now
  | write (bytes : Bytes) (accepted : Bool)
  | readByte (ms : Nat) (answer : Option Byte)
  | sleep (ms : Nat)
deriving DecidableEq, Repr

/-- The environment as plain data (00_scope.md R5, 10_state.md R36, R41, 20_memory.md R62 to R66): the answers it will give, then free values (log 6). -/
structure Env where
  /-- The last answer of `Now()`. -/
  clock : Nat
  /-- How far each coming answer of `Now()` lies above the one before: the answers never decrease (R36; log 7). -/
  nowQ : List Nat
  /-- The coming answers of `T.write`. -/
  writeQ : List Bool
  /-- The coming answers of `T.read_byte`: the bytes of the receive stream in order, each once, with every `none` between them (R64, R66). They outlast an operation (R41). -/
  readQ : List (Option Byte)
  /-- How many answers were asked for: the argument of the free values. -/
  draws : Nat
  /-- The primitive calls made, oldest first: ghost. -/
  calls : List PortCall
deriving DecidableEq, Repr

/-- How the loop of an operation ended, for its FINISH: the local `st` of 43_commandset.md R191 and the ways to FINISH of 44_inventory.md R220. -/
inductive EndCause where
  | writeFailed
  | timeout
  | terminal
  | precond
  | collected
  | nack
deriving DecidableEq, Repr

/-! ### The state -/

/-- The registers of 10_state.md (R20), the operation port, and the environment's data. -/
structure State where
  /-- RB, the reassembly buffer (R21). -/
  rb : Bytes
  /-- ACC, the output accumulator of TRANSACT (R22). -/
  acc : Bytes
  /-- ITEMS, the inventory item list (R23). -/
  items : List Item
  /-- EXPECTED, -1 or 0 to 255 (R24). -/
  expected : Int
  /-- ERR, the inventory error field (R26). -/
  err : InvError
  /-- HAVE_UID (R25). -/
  haveUid : Bool
  /-- BUSY (R29). -/
  busy : Bool
  /-- MODE_RAW (R30). -/
  modeRaw : Bytes
  /-- DEADLINE, in ms (R27). -/
  deadline : Nat
  /-- LAST_RX, in ms (R28). -/
  lastRx : Nat
  /-- PHASE (R32). -/
  phase : Phase
  /-- RES_STATUS (R33). -/
  resStatus : Status
  /-- RES_BYTES (R33). -/
  resBytes : Bytes
  /-- RES_BOOL (R33). -/
  resBool : Bool
  /-- RES_FRAMES (R33). -/
  resFrames : List Bytes
  /-- RES_NACK (R33). -/
  resNack : Nack
  /-- RES_PRETTY (R33). -/
  resPretty : Pretty
  /-- The CFG registers and the other static parameters (R34, 00_scope.md R6). -/
  cfg : Cfg
  /-- The operation in progress with its operands, held unchanged until `done` (R20, 20_memory.md R73). -/
  op : Option Instr
  /-- The byte a poll answered, until FEED takes it (R32, POLL to SCAN). -/
  rxByte : Option Byte
  /-- The frames FEED emitted that are not handled yet, in order (42_transactor.md R170, 44_inventory.md R220). -/
  out : List Bytes
  /-- How the loop of the operation in progress ended. -/
  cause : Option EndCause
  /-- The `done` pulse: raised by the step that ends an accepted operation (00_scope.md R8, R40). -/
  done : Bool
  /-- The status the port answered in this step, where it turned a request away (60_exceptions.md R290, 30_encoding.md R113). -/
  portAnswer : Option Status
  /-- A request presented at this moment (00_scope.md R8). -/
  request : Option Request
  /-- The host's program: the operations it has still to issue, each after the previous `done` (00_scope.md R10). -/
  program : List Request
  /-- The external reset input (70_reset_and_hazards.md R310). -/
  resetIn : Bool
  /-- The environment. -/
  env : Env
  /-- The trace stream, oldest first: write-only, ghost (60_exceptions.md R300, R302). -/
  trace : List Event
deriving DecidableEq, Repr

/-- Why the machine stops with a fault. No rule of the spec has a fault (93_implementation_defined.md); both stand for states no run reaches (`State.Inv` rules them out; log 20). Safe. -/
inductive Fault where
  /-- Raised by `fetch` when BUSY is 1 and no operation is in progress. Safe: no run reaches it. -/
  | noOperation
  /-- Raised by `fetch` when the frame to be handled is no valid frame. Safe: FEED emits valid frames only (41_reassembler.md R155). -/
  | malformedEmission
deriving DecidableEq, Repr

/-- Why the machine gives an instruction no meaning. -/
inductive Refusal where
  /-- Raised by `exec` for an instruction without a meaning yet: none is left. Safe. -/
  | notModelled (mnemonic : String)
  /-- Raised by `fetch` for a request whose operands have not the shape 30_encoding.md R112 fixes, which cannot be presented (R111, 93_implementation_defined.md U1: "the case cannot be expressed"; log 3). Safe. -/
  | operandShape
deriving DecidableEq, Repr

/-- The environment before anything was asked of it: nothing scripted (log 6, log 7). -/
def Env.initial : Env where
  clock := 0
  nowQ := []
  writeQ := []
  readQ := []
  draws := 0
  calls := []

/-- The state after reset (10_state.md R42, 70_reset_and_hazards.md R311). -/
def State.reset : State where
  rb := []
  acc := []
  items := []
  expected := -1
  err := .clear
  haveUid := false
  busy := false
  modeRaw := []
  deadline := 0
  lastRx := 0
  phase := .idle
  resStatus := .ok
  resBytes := []
  resBool := false
  resFrames := []
  resNack := ⟨.invalid, none⟩
  resPretty := Pretty.empty
  cfg := Cfg.default
  op := none
  rxByte := none
  out := []
  cause := none
  done := false
  portAnswer := none
  request := none
  program := []
  resetIn := false
  env := Env.initial
  trace := []

end Sys2Proof.Machine
end

