-- ==== Sys2Proof/Machine/Ops.lean ====
section
/-! DEFINITION. The operations every meaning shares: the four port primitives and the trace (00_scope.md R9), accepting and returning from an operation (00_scope.md R8), the port's rejections (60_exceptions.md R290, 30_encoding.md R113), and the reset input (70_reset_and_hazards.md R313). -/

namespace Sys2Proof.Machine

/-! ### The primitives of 00_scope.md R9 -/

/-- `Trace(ev)` (60_exceptions.md R300). -/
def State.note (ev : Event) (s : State) : State := { s with trace := s.trace ++ [ev] }

/-- The distance of the next answer of `Now()` above the last: scripted, else free (log 6). -/
def Env.advance (e : Env) : Nat := e.nowQ.headD (Config.freeAdvance e.draws)

/-- The next answer of `T.write`: scripted, else free (log 6). -/
def Env.writeAnswer (e : Env) : Bool := e.writeQ.headD (Config.freeWrite e.draws)

/-- The next answer of `T.read_byte`: scripted, else free (log 6). -/
def Env.readAnswer (e : Env) : Option Byte := e.readQ.headD (Config.freeRead e.draws)

/-- The environment after it answered `Now()`: the answer is the new clock, never below the old (10_state.md R36). -/
def Env.afterNow (e : Env) : Env :=
  { e with
    clock := e.clock + e.advance
    nowQ := e.nowQ.tail
    draws := e.draws + 1
    calls := e.calls ++ [.now] }

/-- The environment after `T.write(bytes)` (20_memory.md R62). -/
def Env.afterWrite (bytes : Bytes) (e : Env) : Env :=
  { e with
    writeQ := e.writeQ.tail
    draws := e.draws + 1
    calls := e.calls ++ [.write bytes e.writeAnswer] }

/-- The environment after `T.read_byte(ms)`: the answered byte is gone from the stream (20_memory.md R64). -/
def Env.afterRead (ms : Nat) (e : Env) : Env :=
  { e with
    readQ := e.readQ.tail
    draws := e.draws + 1
    calls := e.calls ++ [.readByte ms e.readAnswer] }

/-- The environment after `Sleep(ms)`: the model forces no time to pass (10_state.md R38, log 8). -/
def Env.afterSleep (ms : Nat) (e : Env) : Env := { e with calls := e.calls ++ [.sleep ms] }

/-- The state after a call of `Now()`, its answer being `(s.sampled).env.clock` (10_state.md R36). -/
def State.sampled (s : State) : State := { s with env := s.env.afterNow }

/-- The state after `T.write(bytes)`, whose answer is `s.env.writeAnswer` (20_memory.md R62). -/
def State.written (bytes : Bytes) (s : State) : State := { s with env := s.env.afterWrite bytes }

/-- The state after `T.read_byte(POLL_TIMEOUT_MS)`, whose answer is `s.env.readAnswer` (20_memory.md R64). -/
def State.polled (s : State) : State := { s with env := s.env.afterRead s.cfg.pollMs }

/-- The state after `Sleep(BACKOFF_MS)` (10_state.md R38). -/
def State.slept (s : State) : State := { s with env := s.env.afterSleep s.cfg.backoffMs }

/-! ### Accepting an operation and returning from it -/

/-- Acceptance: BUSY is set, the operands are sampled, PHASE goes to START (00_scope.md R8, 10_state.md R29, R32, 20_memory.md R73). -/
def State.accept (i : Instr) (s : State) : State :=
  { s with busy := true, phase := .start, op := some i, rxByte := none, out := [], cause := none }

/-- The `return` of an accepted operation: the result registers are written, BUSY is cleared, `done` is raised, PHASE goes to IDLE (00_scope.md R8, 10_state.md R32, R33, 60_exceptions.md R270). RES_NACK and RES_PRETTY are written by their writers before it. -/
def State.finish (status : Status) (bytes : Bytes) (flag : Bool) (frames : List Bytes) (s : State) : State :=
  { s with
    resStatus := status
    resBytes := bytes
    resBool := flag
    resFrames := frames
    busy := false
    phase := .idle
    op := none
    rxByte := none
    out := []
    cause := none
    done := true }

/-- The return of an operation with no result but its status and, maybe, bytes: RES_FRAMES is empty and RES_BOOL is `RES_STATUS = ST_OK` (10_state.md R33). -/
def State.finishWith (status : Status) (bytes : Bytes) (s : State) : State :=
  s.finish status bytes (status == .ok) []

/-! ### The operation port -/

/-- What every step begins with: the pulse `done` and the port's answer last one step (00_scope.md R8; log 14, log 16). -/
def State.tick (s : State) : State := { s with done := false, portAnswer := none }

/-- A request turned away while BUSY = 1: the port answers ST_BUSY, no register changes (60_exceptions.md R290). -/
def State.rejectBusy (s : State) : State := { s with portAnswer := some .busy }

/-- A reserved op code while BUSY = 0: RES_STATUS is ST_ILLEGAL_OP, no other register changes, BUSY stays 0, `done` is raised (30_encoding.md R113). -/
def State.rejectIllegal (s : State) : State :=
  { s with resStatus := .illegalOp, done := true, portAnswer := some .illegalOp }

/-- The reset input: every register goes to its reset value, an operation in progress is abandoned without `done`; the parameters stay, and the transport, the time source, the sink and the host are not touched (70_reset_and_hazards.md R310, R311, R313; log 15). -/
def State.engineReset (s : State) : State :=
  { State.reset with
    cfg := s.cfg, env := s.env, trace := s.trace, request := s.request, program := s.program }

/-- A host operation at the port or in progress: idle, it is accepted; in progress, it makes its next engine step; presented while another is in progress, it is turned away (00_scope.md R8, 60_exceptions.md R290; log 1). -/
def hostOp (i : Instr) (body : State → State) (s : State) : Host.Outcome State Fault Refusal :=
  if s.busy then
    if s.op = some i then .next (body s) else .next s.rejectBusy
  else .next (s.accept i)

/-- An operation without a port: START evaluates what changes a register, FINISH writes the results (10_state.md R32; log 26). The other phases are not reached. -/
def pureOp (i : Instr) (start finish : State → State) : State → Host.Outcome State Fault Refusal :=
  hostOp i fun s =>
    match s.phase with
    | .start => { start s with phase := .finish }
    | .finish => finish s
    | .idle | .send | .check | .poll | .backoff | .scan => s

/-! ### The numbers of the spec's enumerations -/

/-- The code of a status (60_exceptions.md R271). -/
def Status.code : Status → Nat
  | .ok => 0
  | .failWrite => 1
  | .failNoframe => 2
  | .failBadresp => 3
  | .nackSum => 4
  | .nackFmt => 5
  | .nackUnknown => 6
  | .failPrecond => 7
  | .noTags => 8
  | .busy => 9
  | .illegalOp => 10
  | .terminal => 11
  | .timeout => 12

end Sys2Proof.Machine
end

