-- ==== Sys2Proof/Machine/Operands.lean ====
section
/-! DEFINITION. Operand forms: the fields inside a payload (30_encoding.md R99, R106), and the operand forms of the host operations that more than one meaning reads. -/

namespace Sys2Proof.Machine

/-- The detail code: `f[4]` when LEN >= 1 (30_encoding.md R99, R106 (c)). -/
def detailOf (f : Bytes) : Option Byte := if 1 ≤ frameLen f then some (byteAt f 4) else none

/-- `DATA(f) = f[5 .. 4+LEN(f))`, the data section, for LEN >= 1 (00_scope.md R7, 30_encoding.md R99, R106 (f), (g)). -/
def dataOf (f : Bytes) : Bytes := (f.drop 5).take (frameLen f - 1)

/-- The NACK error code: `f[4]` when LEN >= 1, else NONE (30_encoding.md R106 (b), 45_translators.md R261). -/
def nackCodeOf (f : Bytes) : Option Byte := if 1 ≤ frameLen f then some (byteAt f 4) else none

/-- The tag count of an inventory ACK: `f[5]` when LEN >= 2 (30_encoding.md R106 (d), 44_inventory.md R223). -/
def tagCountOf (f : Bytes) : Option Nat := if 2 ≤ frameLen f then some (byteAt f 5).toNat else none

/-- The item of a tag record with LEN >= 9: `dsfid = f[4]`, `uid[i] = f[12 - i]` (20_memory.md R67, 30_encoding.md R106 (e), 44_inventory.md R224). -/
def itemOf (f : Bytes) : Option Item :=
  if 9 ≤ frameLen f then
    some ⟨#v[byteAt f 12, byteAt f 11, byteAt f 10, byteAt f 9,
             byteAt f 8, byteAt f 7, byteAt f 6, byteAt f 5], byteAt f 4⟩
  else none

/-- A byte of printable ASCII, 0x20 to 0x7E (43_commandset.md R195, D15). -/
def isPrintable (b : Byte) : Bool := decide (0x20 ≤ b.toNat) && decide (b.toNat ≤ 0x7E)

/-- VERSION_TEXT (43_commandset.md R195). -/
def versionText (d : Bytes) : Bytes :=
  match d.filter isPrintable with
  | c0 :: c1 :: c2 :: c3 :: rest => c0 :: 0x2E :: c1 :: c2 :: 0x20 :: c3 :: rest
  | short => short

/-- A terminal frame: CMD is ACK or NACK, whatever ADDR, LEN and the detail byte are (30_encoding.md R101, R102, 42_transactor.md R178). -/
def isTerminal (f : Bytes) : Bool :=
  frameCmd f == Config.cmdAck || frameCmd f == Config.cmdNack

/-- The operand `stop_on_terminal` of the operation in progress: TRANSACT's own, true in the four composites (42_transactor.md R170, 43_commandset.md R191). -/
def State.stopsOnTerminal (s : State) : Bool :=
  match s.op with
  | some (.transact _ _ stop) => stop
  | some (.rdfw _) => true
  | some (.rdmode _) => true
  | some (.wrmode _) => true
  | some (.buzzer _ _ _) => true
  | _ => false

/-- The operation in progress runs on TRANSACT: TRANSACT itself and the four composites (30_encoding.md R115). -/
def State.exchanging (s : State) : Bool :=
  match s.op with
  | some (.transact _ _ _) => true
  | some (.rdfw _) => true
  | some (.rdmode _) => true
  | some (.wrmode _) => true
  | some (.buzzer _ _ _) => true
  | _ => false

/-- The operation in progress is INVENTORY (30_encoding.md R115: "not a composite of TRANSACT"). -/
def State.collecting (s : State) : Bool :=
  match s.op with
  | some (.inventory _) => true
  | _ => false

/-- What the operation in progress hands to `T.write`: TRANSACT its operand unchecked, the others one built frame (20_memory.md R62, 42_transactor.md R173, 30_encoding.md R95 to R100). -/
def State.requestBytes (s : State) : Option Bytes :=
  match s.op with
  | some (.transact cmdBytes _ _) => some cmdBytes
  | some (.rdfw _) => some (buildFrame s.cfg.addr Config.cmdRdParam romverPayload)
  | some (.rdmode _) => some (buildFrame s.cfg.addr Config.cmdRdParam rdmodePayload)
  | some (.wrmode _) =>
    some (buildFrame s.cfg.addr Config.cmdWrmode (wrmodePayload s.cfg.targetRam (byteAt s.modeRaw 2)))
  | some (.buzzer responseType soundType _) =>
    some (buildFrame s.cfg.addr Config.cmdBuzzer (buzzerPayload responseType soundType))
  | some (.inventory _) => some (buildFrame s.cfg.addr Config.cmdInventory (inventoryPayload s.cfg.invReqExtra))
  | _ => none

end Sys2Proof.Machine
end

