-- ==== Sys2Proof/Machine/Flags.lean ====
section
/-! DEFINITION. Flags (10_state.md R40): BUSY and `done` are written by `State.accept` and `State.finish`; here are HAVE_UID, "EXPECTED known", the two conditions of the termination race (44_inventory.md R228), and the views STATUS and the host's reading of the registers. -/

namespace Sys2Proof

/-- FREE: the code of PHASE in bits 5:3 of STATUS, which the spec leaves open (10_state.md R32, R35; log 12). -/
opaque Config.freePhaseCode : Machine.Phase → BitVec 3

namespace Machine

/-- "EXPECTED known": `EXPECTED >= 0` (10_state.md R40). -/
def State.expectedKnown (s : State) : Bool := decide (0 ≤ s.expected)

/-- The count condition: `EXPECTED >= 0 and len(ITEMS) >= EXPECTED` (44_inventory.md R228 (a)). -/
def State.countReached (s : State) : Bool :=
  s.expectedKnown && decide (s.expected ≤ (s.items.length : Int))

/-- The silence condition at time `now`, given HAVE_UID: `now - LAST_RX > SILENCE_MS`, strictly (44_inventory.md R228 (b)). -/
def State.silentAt (now : Nat) (s : State) : Bool := decide (now - s.lastRx > s.cfg.silenceMs)

/-- ITEMS grows by one item and HAVE_UID is set (10_state.md R25, 44_inventory.md R224). -/
def State.addItem (item : Item) (s : State) : State :=
  { s with items := s.items ++ [item], haveUid := true }

/-- Whether `DONE()` samples `Now()`: its first disjunct is false and HAVE_UID is 1 (44_inventory.md R226). -/
def State.doneSamples (s : State) : Bool := !s.countReached && s.haveUid

/-- The state after `DONE()`: the sample it takes is its only effect (44_inventory.md R226). -/
def State.afterDone (s : State) : State := if s.doneSamples then s.sampled else s

/-- The value of `DONE()`: the count is reached, or a UID was received and the silence lasted (44_inventory.md R228). -/
def State.isDone (s : State) : Bool :=
  s.countReached || (s.haveUid && s.silentAt s.sampled.env.clock)

/-- STATUS: bit 0 BUSY, bit 1 HAVE_UID, bit 2 `EXPECTED >= 0`, bits 5:3 PHASE, bits 7:6 zero (10_state.md R35). -/
def State.statusView (s : State) : Byte :=
  (0#2 ++ Config.freePhaseCode s.phase ++ BitVec.ofBool s.expectedKnown ++ BitVec.ofBool s.haveUid ++
    BitVec.ofBool s.busy : BitVec 8)

end Machine

end Sys2Proof
end

