-- ==== Sys2Proof/Machine/FrameCodec.lean ====
section
/-! DEFINITION. FrameCodec: BUILD, VALIDATE, LASTFRAME (40_framecodec.md). -/

namespace Sys2Proof.Machine

/-- BUILD (40_framecodec.md R131). -/
def execBuild (addr cmd : Byte) (payload : Bytes) : State → Host.Outcome State Fault Refusal :=
  pureOp (.build addr cmd payload) id fun s => s.finishWith .ok (buildFrame addr cmd payload)

/-- VALIDATE (40_framecodec.md R134): RES_BOOL is the verdict. -/
def execValidate (bytes : Bytes) : State → Host.Outcome State Fault Refusal :=
  pureOp (.validate bytes) id fun s => s.finish .ok [] (validateFrame s.cfg.checksStx bytes) []

/-- LASTFRAME (40_framecodec.md R137): RES_BOOL says whether a frame was found, RES_BYTES is it or empty. -/
def execLastframe (bytes : Bytes) : State → Host.Outcome State Fault Refusal :=
  pureOp (.lastframe bytes) id fun s =>
    s.finish .ok ((lastFrame bytes).getD []) (lastFrame bytes).isSome []

end Sys2Proof.Machine
end

