-- ==== Sys2Proof/Machine/Reassembler.lean ====
section
/-! DEFINITION. StreamReassembler: RBCLR, FEED (41_reassembler.md). -/

namespace Sys2Proof.Machine

/-- The loop of FEED on a buffer, from step 2 on: what is left in RB, and the frames emitted, in order (41_reassembler.md R152). Each turn returns or shortens the buffer, so fuel above the buffer's length is never used up (R159). -/
def scanBuffer (checksStx : Bool) : Nat → Bytes → Bytes × List Bytes
  | 0, rb => (rb, [])
  | fuel + 1, rb =>
    let r := rb.dropWhile (· != Config.stx)
    if r.length < 4 then (r, [])
    else if r.length < needOf r then (r, [])
    else if validateFrame checksStx (r.take (needOf r)) then
      let rest := scanBuffer checksStx fuel (r.drop (needOf r))
      (rest.1, r.take (needOf r) :: rest.2)
    else scanBuffer checksStx fuel (r.drop 1)

/-- The loop of FEED on a whole buffer (41_reassembler.md R152). -/
def scanAll (checksStx : Bool) (rb : Bytes) : Bytes × List Bytes :=
  scanBuffer checksStx (rb.length + 1) rb

/-- FEED `b`: RB and the frames this byte emits (41_reassembler.md R152). -/
def State.feedByte (b : Byte) (s : State) : State :=
  { s with
    rb := (scanAll s.cfg.checksStx (s.rb ++ [b])).1
    out := (scanAll s.cfg.checksStx (s.rb ++ [b])).2
    rxByte := none }

/-- RBCLR (41_reassembler.md R151). -/
def execRbclr : State → Host.Outcome State Fault Refusal :=
  pureOp .rbclr (fun s => { s with rb := [] }) fun s => s.finishWith .ok []

/-- FEED as a host operation: RES_FRAMES is what this byte emitted (41_reassembler.md R152). -/
def execFeed (b : Byte) : State → Host.Outcome State Fault Refusal :=
  pureOp (.feed b) (fun s => s.feedByte b) fun s => s.finish .ok [] true s.out

end Sys2Proof.Machine
end

