-- ==== Sys2Proof/Machine/Translators.lean ====
section
/-! DEFINITION. ModeTranslator and the NACK decoder: DECMODE, DECNACK (45_translators.md). -/

namespace Sys2Proof.Machine

/-! ### DECMODE -/

/-- The mode name of byte 0 (45_translators.md R252). -/
def modeNameOf (table : List (Byte × ModeName)) (m : Byte) : ModeField :=
  match table.lookup m with
  | some name => .named name
  | none => .unknown m

/-- The baud label selected by `raw[3][7:6]` (45_translators.md R254). -/
def baudOf (s : Byte) : Baud :=
  match s.toNat / 64 with
  | 0 => .b19200
  | 1 => .b9600
  | 2 => .b38400
  | _ => .b115200

/-- The function DECMODE (45_translators.md R251 to R256). -/
def decodeMode (cfg : Cfg) (raw : Bytes) : Pretty :=
  if raw.length < 4 then Pretty.empty
  else
    let g := byteAt raw 2
    { modeName := modeNameOf cfg.modeNames (byteAt raw 0)
      anticollision := if g.getLsbD 2 then .enabled else .disabled
      readBehavior := if g.getLsbD 3 then .continuous else .singleShot
      buzzer := if g.getLsbD 4 == cfg.buzzerSetMeansOn then .on else .off
      txData := if g.getLsbD 5 then .userDataPlusUid else .userDataOnly
      baud := baudOf (byteAt raw 3) }

/-- DECMODE (45_translators.md R251). -/
def execDecmode (raw : Bytes) : State → Host.Outcome State Fault Refusal :=
  pureOp (.decmode raw) id fun s =>
    State.finishWith .ok [] { s with resPretty := decodeMode s.cfg raw }

/-- MODE_PRETTY, the view of MODE_RAW (10_state.md R31). -/
def State.modePretty (s : State) : Pretty := decodeMode s.cfg s.modeRaw

/-! ### DECNACK -/

/-- The function DECNACK (45_translators.md R261). -/
def decodeNack (checksStx : Bool) (f : Bytes) : Nack :=
  if validateFrame checksStx f && frameCmd f == Config.cmdNack then
    if nackCodeOf f = some Config.nackSum then ⟨.sum, nackCodeOf f⟩
    else if nackCodeOf f = some Config.nackFmt then ⟨.fmt, nackCodeOf f⟩
    else ⟨.unknown, nackCodeOf f⟩
  else ⟨.invalid, none⟩

/-- DECNACK (45_translators.md R261). -/
def execDecnack (frame : Bytes) : State → Host.Outcome State Fault Refusal :=
  pureOp (.decnack frame) id fun s =>
    State.finishWith .ok [] { s with resNack := decodeNack s.cfg.checksStx frame }

/-- The status of a NACK in the CommandSet operations; NK_INVALID cannot occur there (43_commandset.md R192, 45_translators.md R263). -/
def NackKind.status : NackKind → Status
  | .sum => .nackSum
  | .fmt => .nackFmt
  | .unknown => .nackUnknown
  | .invalid => .nackUnknown

/-- The error of a NACK in INVENTORY (44_inventory.md R227, 45_translators.md R263). -/
def NackKind.invError : NackKind → InvError
  | .sum => .nackSum
  | .fmt => .nackFmt
  | .unknown => .nackUnknown
  | .invalid => .nackUnknown

/-! ### Labels: the source's phrases (45_translators.md R252, R258, R262; log 30) -/

/-- An upper-case hexadecimal digit. -/
def hexDigit (n : Nat) : String :=
  match n with
  | 10 => "A"
  | 11 => "B"
  | 12 => "C"
  | 13 => "D"
  | 14 => "E"
  | 15 => "F"
  | d => toString d

/-- The text form of UNKNOWN(m), "unknown (0xHH)" (45_translators.md R252). -/
def unknownModeLabel (m : Byte) : String :=
  "unknown (0x" ++ hexDigit (m.toNat / 16) ++ hexDigit (m.toNat % 16) ++ ")"

/-- The label of a mode name where the spec gives one (45_translators.md R258). -/
def ModeField.label : ModeField → Option String
  | .empty => some ""
  | .named .commandMode => some "command mode"
  | .named (.listed _) => none
  | .unknown m => some (unknownModeLabel m)

/-- 45_translators.md R258. -/
def Anticollision.label : Anticollision → String
  | .empty => ""
  | .enabled => "enabled"
  | .disabled => "disabled"

/-- 45_translators.md R258. -/
def ReadBehavior.label : ReadBehavior → String
  | .empty => ""
  | .continuous => "continuous"
  | .singleShot => "single-shot"

/-- 45_translators.md R258. -/
def BuzzerField.label : BuzzerField → String
  | .empty => ""
  | .on => "on"
  | .off => "off"

/-- 45_translators.md R258. -/
def TxData.label : TxData → String
  | .empty => ""
  | .userDataOnly => "user-data-only"
  | .userDataPlusUid => "user-data-plus-UID"

/-- 45_translators.md R258. -/
def Baud.label : Baud → String
  | .empty => ""
  | .b19200 => "19200"
  | .b9600 => "9600"
  | .b38400 => "38400"
  | .b115200 => "115200"

/-- The message of a NACK kind (45_translators.md R262). -/
def NackKind.message : NackKind → String
  | .sum => "checksum mismatch"
  | .fmt => "format/parameter error"
  | .unknown => "unknown error"
  | .invalid => "invalid NACK"

end Sys2Proof.Machine
end

