-- ==== Sys2Proof/Machine/Polling.lean ====
section
/-! DEFINITION. The engine steps TRANSACT and INVENTORY share: send, deadline test, poll (42_transactor.md R173 to R176, 44_inventory.md R222, R226). -/

namespace Sys2Proof.Machine

/-- The transport refused the request: a comment, ERR for INVENTORY, and FINISH at once, nothing polled (42_transactor.md R174, 44_inventory.md R222). -/
def State.writeFailure (s : State) : State :=
  { s.note (.cmt .writeFailed) with
    err := if s.collecting then .writeFailed else s.err
    cause := some .writeFailed
    phase := .finish }

/-- SEND: the request is traced, then handed to `T.write` in one call (42_transactor.md R173, 10_state.md R32). -/
def State.transmit (bytes : Bytes) (s : State) : State :=
  if s.env.writeAnswer then { (s.note (.send bytes)).written bytes with phase := .check }
  else ((s.note (.send bytes)).written bytes).writeFailure

/-- CHECK: one sample of `Now()`; `Now() >= DEADLINE` ends the loop with a timeout comment (42_transactor.md R176, 44_inventory.md R226, R229). -/
def State.checkDeadline (s : State) : State :=
  if s.deadline ≤ s.sampled.env.clock then
    { s.sampled.note (.cmt .timeout) with cause := some .timeout, phase := .finish }
  else { s.sampled with phase := .poll }

/-- POLL: one byte is asked for (42_transactor.md R175, 20_memory.md R64). -/
def State.pollByte (s : State) : State :=
  match s.env.readAnswer with
  | none => { s.polled with phase := .backoff }
  | some b => { s.polled with rxByte := some b, phase := .scan }

/-- After a frame is handled: the next frame of the same FEED pass, or the next turn of the loop. -/
def State.continueScan (s : State) : State :=
  { s with phase := if s.out.isEmpty then .check else .scan }

/-- The loop ends with frames of the same FEED pass dropped (42_transactor.md R178, 70_reset_and_hazards.md R331). -/
def State.leaveLoop (cause : EndCause) (s : State) : State :=
  { s with out := [], cause := some cause, phase := .finish }

end Sys2Proof.Machine
end

