-- ==== Sys2Proof/Machine/Transactor.lean ====
section
/-! DEFINITION. Transactor: TRANSACT (42_transactor.md), and the loop the four CommandSet operations run on it. -/

namespace Sys2Proof.Machine

/-- START: the deadline is fixed, RB and ACC are cleared (42_transactor.md R172). -/
def State.exchangeStart (budgetMs : Nat) (s : State) : State :=
  { s.sampled with
    deadline := s.sampled.env.clock + budgetMs
    rb := []
    acc := []
    phase := .send }

/-- BACKOFF (42_transactor.md R175). -/
def State.exchangeBackoff (s : State) : State := { s.slept with phase := .check }

/-- Every emitted frame is traced and appended whole to ACC (42_transactor.md R177). -/
def State.accumulate (f : Bytes) (s : State) : State :=
  { s.note (.recv f) with acc := s.acc ++ f }

/-- A frame that is not terminal (42_transactor.md R177). -/
def State.exchangeOther (f : Bytes) (s : State) : State := (s.accumulate f).continueScan

/-- A terminal frame: it ends the loop if `stop_on_terminal` is set (42_transactor.md R178, R180). -/
def State.exchangeTerminal (f : Bytes) (s : State) : State :=
  if s.stopsOnTerminal then (s.accumulate f).leaveLoop .terminal else (s.accumulate f).continueScan

/-- One turn of "for f in FEED(r)" (42_transactor.md R170). -/
def State.exchangeFrame (f : Bytes) (s : State) : State :=
  if isTerminal f then s.exchangeTerminal f else s.exchangeOther f

/-- SCAN: FEED the byte, then handle the emitted frames one a step, in order (42_transactor.md R170, 10_state.md R32). -/
def State.exchangeScan (s : State) : State :=
  match s.rxByte, s.out with
  | some b, _ => (s.feedByte b).continueScan
  | none, f :: rest => State.exchangeFrame f { s with out := rest }
  | none, [] => { s with phase := .check }

/-- SEND of the operation in progress (42_transactor.md R173). -/
def State.sendRequest (s : State) : State :=
  match s.requestBytes with
  | some bytes => s.transmit bytes
  | none => s

/-- An operation that runs TRANSACT, with its own START and FINISH (42_transactor.md R170, 43_commandset.md R191, 10_state.md R32). -/
def exchangeOp (i : Instr) (start finish : State → State) : State → Host.Outcome State Fault Refusal :=
  hostOp i fun s =>
    match s.phase with
    | .idle => s
    | .start => start s
    | .send => s.sendRequest
    | .check => s.checkDeadline
    | .poll => s.pollByte
    | .backoff => s.exchangeBackoff
    | .scan => s.exchangeScan
    | .finish => finish s

/-- FINISH of TRANSACT: the three ends are told apart (42_transactor.md R171, R174, R178, R179). Without a recorded end, which no run has, it is the timeout's (log 18). -/
def State.transactFinish (s : State) : State :=
  match s.cause with
  | some .writeFailed => s.finishWith .failWrite []
  | some .terminal => s.finishWith .terminal s.acc
  | some .timeout | some .precond | some .collected | some .nack | none =>
    s.finishWith .timeout s.acc

/-- TRANSACT (42_transactor.md R170). -/
def execTransact (cmdBytes : Bytes) (budgetMs : Nat) (stopOnTerminal : Bool) :
    State → Host.Outcome State Fault Refusal :=
  exchangeOp (.transact cmdBytes budgetMs stopOnTerminal)
    (fun s => s.exchangeStart budgetMs) State.transactFinish

end Sys2Proof.Machine
end

