-- ==== Sys2Proof/Machine/CommandSet.lean ====
section
/-! DEFINITION. CommandSet: RDFW, RDMODE, WRMODE, BUZZER (43_commandset.md). -/

namespace Sys2Proof.Machine

/-- START of a composite: the start comment, then TRANSACT's start (43_commandset.md R191). -/
def State.compositeStart (op : OpName) (budgetMs : Nat) (s : State) : State :=
  (s.note (.cmt (.opStart op))).exchangeStart budgetMs

/-- A failure whose last frame is wrong (43_commandset.md R193, R199, R204, R210). -/
def State.badResponse (s : State) : State := (s.note (.cmt .badResp)).finishWith .failBadresp []

/-- A NACK as last frame (43_commandset.md R192). -/
def State.nackReturn (f : Bytes) (s : State) : State :=
  let nack := decodeNack s.cfg.checksStx f
  State.finishWith nack.kind.status [] ({ s with resNack := nack }.note (.cmt (.nack nack.kind)))

/-- EXCHANGE after TRANSACT, and the NACK branch the four operations share; `onFrame` is the operation's own classification of a frame that is no NACK (43_commandset.md R191, R192). -/
def State.concludeExchange (onFrame : Bytes → State → State) (s : State) : State :=
  match lastFrame s.acc with
  | none =>
    if s.cause = some .writeFailed then s.finishWith .failWrite []
    else (s.note (.cmt .noFrame)).finishWith .failNoframe []
  | some f =>
    if validateFrame s.cfg.checksStx f then
      if frameCmd f = Config.cmdNack then s.nackReturn f else onFrame f s
    else s.badResponse

/-- An ACK that carries the detail code asked for (43_commandset.md R193, R199). -/
def isAckWithDetail (detail : Byte) (f : Bytes) : Bool :=
  frameCmd f == Config.cmdAck && detailOf f == some detail

/-- RDFW on its last frame (43_commandset.md R193). -/
def State.rdfwFrame (f : Bytes) (s : State) : State :=
  if isAckWithDetail Config.detRomver f then
    (s.note (.cmt (.value .rdfw))).finishWith .ok (versionText (dataOf f))
  else s.badResponse

/-- RDMODE on its last frame: MODE_RAW is captured on success only (43_commandset.md R199, R200, R201). -/
def State.rdmodeFrame (f : Bytes) (s : State) : State :=
  if isAckWithDetail Config.detRdmode f then
    State.finishWith .ok [] ({ s with modeRaw := dataOf f }.note (.cmt (.value .rdmode)))
  else s.badResponse

/-- WRMODE and BUZZER on their last frame: any ACK is success (43_commandset.md R204, R207, R210, R212). -/
def State.ackFrame (f : Bytes) (s : State) : State :=
  if frameCmd f = Config.cmdAck then s.finishWith .ok [] else s.badResponse

/-- START of WRMODE: the precondition is tested before anything else; without it there is no sample, no write, no poll (43_commandset.md R206). -/
def State.wrmodeStart (budgetMs : Nat) (s : State) : State :=
  if s.modeRaw.length < 4 then (s.note (.cmt .precond)).leaveLoop .precond
  else s.compositeStart .wrmode budgetMs

/-- FINISH of WRMODE (43_commandset.md R204, R206). -/
def State.wrmodeFinish (s : State) : State :=
  if s.cause = some .precond then s.finishWith .failPrecond []
  else s.concludeExchange State.ackFrame

/-- RDFW (43_commandset.md R193). -/
def execRdfw (budgetMs : Nat) : State → Host.Outcome State Fault Refusal :=
  exchangeOp (.rdfw budgetMs) (fun s => s.compositeStart .rdfw budgetMs)
    fun s => s.concludeExchange State.rdfwFrame

/-- RDMODE (43_commandset.md R199). -/
def execRdmode (budgetMs : Nat) : State → Host.Outcome State Fault Refusal :=
  exchangeOp (.rdmode budgetMs) (fun s => s.compositeStart .rdmode budgetMs)
    fun s => s.concludeExchange State.rdmodeFrame

/-- WRMODE (43_commandset.md R204). -/
def execWrmode (budgetMs : Nat) : State → Host.Outcome State Fault Refusal :=
  exchangeOp (.wrmode budgetMs) (fun s => s.wrmodeStart budgetMs) State.wrmodeFinish

/-- BUZZER (43_commandset.md R210). -/
def execBuzzer (responseType soundType : Byte) (budgetMs : Nat) :
    State → Host.Outcome State Fault Refusal :=
  exchangeOp (.buzzer responseType soundType budgetMs) (fun s => s.compositeStart .buzzer budgetMs)
    fun s => s.concludeExchange State.ackFrame

end Sys2Proof.Machine
end

