-- ==== Sys2Proof/Machine/Inventory.lean ====
section
/-! DEFINITION. InventoryCollector: INVENTORY (44_inventory.md). -/

namespace Sys2Proof.Machine

/-- START: one sample fixes DEADLINE and the initial LAST_RX, the result registers are cleared; ACC is untouched (44_inventory.md R220, R221; log 17). -/
def State.inventoryStart (budgetMs : Nat) (s : State) : State :=
  State.note (.cmt (.opStart .inventory))
    { s.sampled with
      deadline := s.sampled.env.clock + budgetMs
      lastRx := s.sampled.env.clock
      rb := []
      items := []
      expected := -1
      haveUid := false
      err := .clear
      phase := .send }

/-- A check point of the termination race: `if DONE(): goto FINISH` (44_inventory.md R226, R228). -/
def State.raceCheck (s : State) : State :=
  if s.isDone then s.afterDone.leaveLoop .collected else s.afterDone.continueScan

/-- BACKOFF, then one check point (44_inventory.md R226). -/
def State.inventoryBackoff (s : State) : State := s.slept.raceCheck

/-- An ACK: with the inventory detail code and a count, EXPECTED is written (44_inventory.md R223). -/
def State.inventoryAck (f : Bytes) (s : State) : State :=
  if detailOf f = some Config.detInvUid then
    match tagCountOf f with
    | some n => State.raceCheck { s.note (.recv f) with expected := (n : Int) }
    | none => (s.note (.recv f)).raceCheck
  else (s.note (.recv f)).raceCheck

/-- A tag record: with LEN >= 9 one item is appended (44_inventory.md R224). -/
def State.inventoryTag (f : Bytes) (s : State) : State :=
  match itemOf f with
  | some item => ((s.note (.recv f)).addItem item).raceCheck
  | none => (s.note (.recv f)).raceCheck

/-- A NACK: ERR is set and the collection ends at once, items kept (44_inventory.md R227). -/
def State.inventoryNack (f : Bytes) (s : State) : State :=
  let kind := (decodeNack s.cfg.checksStx f).kind
  ({ s.note (.recv f) with err := kind.invError }.note (.cmt (.nack kind))).leaveLoop .nack

/-- Any other frame is traced and otherwise ignored (44_inventory.md R225). -/
def State.inventoryOther (f : Bytes) (s : State) : State := (s.note (.recv f)).raceCheck

/-- One turn of "for f in FEED(r)" (44_inventory.md R220). -/
def State.inventoryFrame (f : Bytes) (s : State) : State :=
  if frameCmd f = Config.cmdAck then s.inventoryAck f
  else if frameCmd f = Config.cmdNack then s.inventoryNack f
  else if frameCmd f = Config.cmdUid then s.inventoryTag f
  else s.inventoryOther f

/-- SCAN: LAST_RX is sampled for the byte, whatever it is, and the byte is fed; then the emitted frames are handled one a step, in order (44_inventory.md R220, R226). -/
def State.inventoryScan (s : State) : State :=
  match s.rxByte, s.out with
  | some b, _ => (State.feedByte b { s.sampled with lastRx := s.sampled.env.clock }).continueScan
  | none, f :: rest => State.inventoryFrame f { s with out := rest }
  | none, [] => { s with phase := .check }

/-- RES_STATUS mirrors ERR (44_inventory.md R231). -/
def InvError.status : InvError → Status
  | .clear => .ok
  | .nackSum => .nackSum
  | .nackFmt => .nackFmt
  | .nackUnknown => .nackUnknown
  | .noTags => .noTags
  | .writeFailed => .failWrite

/-- FINISH: no empty success, then the status (44_inventory.md R230, R231). -/
def State.inventoryFinish (s : State) : State :=
  if s.items = [] ∧ s.err = .clear then
    State.finishWith .noTags [] { s.note (.cmt .noTags) with err := .noTags }
  else s.finishWith s.err.status []

/-- INVENTORY (44_inventory.md R220). -/
def execInventory (budgetMs : Nat) : State → Host.Outcome State Fault Refusal :=
  hostOp (.inventory budgetMs) fun s =>
    match s.phase with
    | .idle => s
    | .start => s.inventoryStart budgetMs
    | .send => s.sendRequest
    | .check => s.checkDeadline
    | .poll => s.pollByte
    | .backoff => s.inventoryBackoff
    | .scan => s.inventoryScan
    | .finish => s.inventoryFinish

end Sys2Proof.Machine
end

