-- ==== Sys2Proof/Machine/WireFrames.lean ====
section
/-! DEFINITION. The wire level: the five request frames the engine emits (30_encoding.md R95 to R100) and the four response frames it decodes (R101 to R105). A request frame is executed in SEND, a response frame in SCAN, by the operation in progress; elsewhere a frame has no effect on the block (log 2). -/

namespace Sys2Proof.Machine

/-- A request frame: in SEND it is traced and handed to `T.write` (42_transactor.md R173, 44_inventory.md R222). -/
def emitRequest (f : Bytes) (s : State) : Host.Outcome State Fault Refusal :=
  if s.busy && s.phase == .send then .next (s.transmit f) else .next s

/-- A response frame: in SCAN it is handled by TRANSACT or by INVENTORY, whichever is in progress (42_transactor.md R177, 44_inventory.md R220); at any other time the block sees no frame (20_memory.md R66). -/
def handleResponse (exchange collect : State → State) (s : State) : Host.Outcome State Fault Refusal :=
  if s.busy && s.phase == .scan && s.rxByte.isNone then
    if s.exchanging then .next (exchange s)
    else if s.collecting then .next (collect s)
    else .next s
  else .next s

/-- REQ_ROMVER (30_encoding.md R95). -/
def execReqRomver (addr : Byte) : State → Host.Outcome State Fault Refusal :=
  emitRequest (buildFrame addr Config.cmdRdParam romverPayload)

/-- REQ_RDMODE (30_encoding.md R96). -/
def execReqRdmode (addr : Byte) : State → Host.Outcome State Fault Refusal :=
  emitRequest (buildFrame addr Config.cmdRdParam rdmodePayload)

/-- REQ_WRMODE (30_encoding.md R97). -/
def execReqWrmode (addr targetRam flags : Byte) : State → Host.Outcome State Fault Refusal :=
  emitRequest (buildFrame addr Config.cmdWrmode (wrmodePayload targetRam flags))

/-- REQ_INVENTORY (30_encoding.md R98). -/
def execReqInventory (addr : Byte) (extra : Bytes) : State → Host.Outcome State Fault Refusal :=
  emitRequest (buildFrame addr Config.cmdInventory (inventoryPayload extra))

/-- REQ_BUZZER (30_encoding.md R100). -/
def execReqBuzzer (addr responseType soundType : Byte) : State → Host.Outcome State Fault Refusal :=
  emitRequest (buildFrame addr Config.cmdBuzzer (buzzerPayload responseType soundType))

/-- RSP_ACK (30_encoding.md R101): terminal for TRANSACT, the announced count for INVENTORY. -/
def execRspAck (addr : Byte) (payload : Bytes) : State → Host.Outcome State Fault Refusal :=
  let f := buildFrame addr Config.cmdAck payload
  handleResponse (fun s => s.exchangeTerminal f) fun s => s.inventoryAck f

/-- RSP_NACK (30_encoding.md R102): terminal for TRANSACT, the end of INVENTORY. -/
def execRspNack (addr : Byte) (payload : Bytes) : State → Host.Outcome State Fault Refusal :=
  let f := buildFrame addr Config.cmdNack payload
  handleResponse (fun s => s.exchangeTerminal f) fun s => s.inventoryNack f

/-- RSP_UID (30_encoding.md R103): an ordinary frame for TRANSACT, a tag record for INVENTORY. -/
def execRspUid (addr : Byte) (payload : Bytes) : State → Host.Outcome State Fault Refusal :=
  let f := buildFrame addr Config.cmdUid payload
  handleResponse (fun s => s.exchangeOther f) fun s => s.inventoryTag f

/-- RSP_OTHER (30_encoding.md R105): accumulated by TRANSACT, ignored by INVENTORY. -/
def execRspOther (addr cmd : Byte) (payload : Bytes) : State → Host.Outcome State Fault Refusal :=
  let f := buildFrame addr cmd payload
  handleResponse (fun s => s.exchangeOther f) fun s => s.inventoryOther f

end Sys2Proof.Machine
end

