-- ==== Sys2Proof/Machine/Dispatch.lean ====
section
/-! DEFINITION. The meaning of each instruction, one arm per constructor of `Instr`. -/

namespace Sys2Proof.Machine

/-- One engine step of the instruction `i` (log 1). -/
def exec (i : Instr) (s : State) : Host.Outcome State Fault Refusal :=
  match i with
  | .build addr cmd payload => Sys2Proof.Machine.execBuild addr cmd payload s
  | .validate bytes => Sys2Proof.Machine.execValidate bytes s
  | .lastframe bytes => Sys2Proof.Machine.execLastframe bytes s
  | .rbclr => Sys2Proof.Machine.execRbclr s
  | .feed b => Sys2Proof.Machine.execFeed b s
  | .transact cmdBytes budgetMs stop => Sys2Proof.Machine.execTransact cmdBytes budgetMs stop s
  | .rdfw budgetMs => Sys2Proof.Machine.execRdfw budgetMs s
  | .rdmode budgetMs => Sys2Proof.Machine.execRdmode budgetMs s
  | .wrmode budgetMs => Sys2Proof.Machine.execWrmode budgetMs s
  | .buzzer responseType soundType budgetMs => Sys2Proof.Machine.execBuzzer responseType soundType budgetMs s
  | .inventory budgetMs => Sys2Proof.Machine.execInventory budgetMs s
  | .decmode raw => Sys2Proof.Machine.execDecmode raw s
  | .decnack frame => Sys2Proof.Machine.execDecnack frame s
  | .reqRomver addr => Sys2Proof.Machine.execReqRomver addr s
  | .reqRdmode addr => Sys2Proof.Machine.execReqRdmode addr s
  | .reqWrmode addr targetRam flags => Sys2Proof.Machine.execReqWrmode addr targetRam flags s
  | .reqInventory addr extra => Sys2Proof.Machine.execReqInventory addr extra s
  | .reqBuzzer addr responseType soundType => Sys2Proof.Machine.execReqBuzzer addr responseType soundType s
  | .rspAck addr payload => Sys2Proof.Machine.execRspAck addr payload s
  | .rspNack addr payload => Sys2Proof.Machine.execRspNack addr payload s
  | .rspUid addr payload => Sys2Proof.Machine.execRspUid addr payload s
  | .rspOther addr cmd payload => Sys2Proof.Machine.execRspOther addr cmd payload s

end Sys2Proof.Machine
end

