-- ==== Sys2Proof/Machine/Fetch.lean ====
section
/-! DEFINITION. What the next step runs: the reset input, a request at the operation port, the next step of the operation in progress, a frame of the wire level, or nothing (00_scope.md R8, R10, 10_state.md R32, 60_exceptions.md R277). -/

namespace Sys2Proof.Machine

/-- What a fetch finds. -/
inductive Fetched where
  /-- The instruction `i` is run at the state. -/
  | run (i : Instr) (s : State)
  /-- No instruction is run; the step ends in this state. -/
  | settled (s : State)
  | fault (r : Fault)
  | refused (r : Refusal)

/-- A request at the port while BUSY = 0 (00_scope.md R8, 30_encoding.md R113). -/
def fetchRequest (r : Request) (s : State) : Fetched :=
  match decode (.host r) with
  | .ok i => .run i s
  | .error .reservedOpCode => .settled s.rejectIllegal
  | .error .operandShape => .refused .operandShape
  | .error .payloadTooLong => .refused .operandShape
  | .error .notAFrame => .refused .operandShape
  | .error .unknownRequest => .refused .operandShape

/-- In SEND the engine emits a request: one of the five frames, or the unchecked operand of TRANSACT (42_transactor.md R173, 93_implementation_defined.md U14). -/
def fetchSend (bytes : Bytes) (s : State) : Fetched :=
  match decode (.tx bytes) with
  | .ok i => .run i s
  | .error _ => .settled (s.transmit bytes)

/-- In SCAN the next emitted frame is decoded and handled (30_encoding.md R116). -/
def fetchFrame (f : Bytes) (s : State) : Fetched :=
  match decode (.rx f) with
  | .ok i => .run i s
  | .error _ => .fault .malformedEmission

/-- The next engine step of the operation in progress. -/
def fetchOperation (s : State) : Fetched :=
  match s.op with
  | some i => .run i s
  | none => .fault .noOperation

/-- While BUSY = 1: the operation in progress goes on; in SEND and in SCAN it works on the wire level. -/
def fetchBusy (s : State) : Fetched :=
  match s.phase with
  | .send =>
    match s.requestBytes with
    | some bytes => fetchSend bytes s
    | none => fetchOperation s
  | .scan =>
    match s.rxByte, s.out with
    | none, f :: rest => fetchFrame f { s with out := rest }
    | _, _ => fetchOperation s
  | .idle | .start | .check | .poll | .backoff | .finish => fetchOperation s

/-- While BUSY = 0: the program's next request, or nothing to do (00_scope.md R10, 70_reset_and_hazards.md R312). -/
def fetchIdle (s : State) : Fetched :=
  match s.program with
  | r :: rest => fetchRequest r { s with program := rest }
  | [] => .settled s

/-- The order at the port: reset, then BUSY before the op code (60_exceptions.md R277 (1), R290), then what is in progress. -/
def fetchTicked (s : State) : Fetched :=
  if s.resetIn then .settled s.engineReset
  else
    match s.request with
    | some r =>
      if s.busy then .settled (State.rejectBusy { s with request := none })
      else fetchRequest r { s with request := none }
    | none => if s.busy then fetchBusy s else fetchIdle s

/-- What the next step runs. -/
def fetch (s : State) : Fetched := fetchTicked s.tick

/-- The state with a word of the opcode table placed where the next step fetches it: a request at the idle port; a request frame as the operand of a TRANSACT in SEND; a response frame emitted to a TRANSACT in SCAN (log 4, log 5). A word that is no instruction changes nothing. -/
def State.placeCode (c : Code) (s : State) : State :=
  match c with
  | .host r =>
    { s with
      resetIn := false, request := some r, busy := false, phase := .idle, op := none
      rxByte := none, out := [], cause := none }
  | .tx f =>
    { s with
      resetIn := false, request := none, busy := true, phase := .send
      op := some (.transact f 0 true), rxByte := none, out := [], cause := none }
  | .rx f =>
    { s with
      resetIn := false, request := none, busy := true, phase := .scan
      op := some (.transact [] 0 true), rxByte := none, out := [f], cause := none }

end Sys2Proof.Machine
end

