-- ==== Sys2Proof/Machine/HostView.lean ====
section
/-! DEFINITION. What the host may read (10_state.md R39, 93_implementation_defined.md U8): the registers, when BUSY = 0. -/

namespace Sys2Proof.Machine

/-- The registers and views the host reads after `done` (00_scope.md R8, 10_state.md R31, R33, R34, R35). -/
structure HostView where
  resStatus : Status
  resBytes : Bytes
  resBool : Bool
  resFrames : List Bytes
  resNack : Nack
  resPretty : Pretty
  items : List Item
  expected : Int
  err : InvError
  modeRaw : Bytes
  modePretty : Pretty
  statusView : Byte
  cfg : Cfg
deriving DecidableEq, Repr

/-- The host's reading of the registers: nothing is specified while BUSY = 1 (10_state.md R39, 70_reset_and_hazards.md R333; log 13). -/
def State.hostView (s : State) : Option HostView :=
  if s.busy then none
  else some
    { resStatus := s.resStatus
      resBytes := s.resBytes
      resBool := s.resBool
      resFrames := s.resFrames
      resNack := s.resNack
      resPretty := s.resPretty
      items := s.items
      expected := s.expected
      err := s.err
      modeRaw := s.modeRaw
      modePretty := s.modePretty
      statusView := s.statusView
      cfg := s.cfg }

end Sys2Proof.Machine
end

