-- ==== Sys2Proof/Machine/Step.lean ====
section
/-! DEFINITION. One step of the machine. -/

namespace Sys2Proof.Machine

/-- One step: what `fetch` finds is run (00_scope.md R8, 10_state.md R32). -/
def step (s : State) : Host.Outcome State Fault Refusal :=
  match fetch s with
  | .run i s' => exec i s'
  | .settled s' => .next s'
  | .fault r => .fault r
  | .refused r => .refused r

/-- `s` with the instruction a word of the opcode table stands for placed where `step` fetches its next instruction (log 4, log 5). -/
def State.withFetchWord (s : State) (nbits w : Nat) : State :=
  match codeOfTableWord nbits w with
  | some c => s.placeCode c
  | none => s

end Sys2Proof.Machine
end

