-- ==== Sys2Proof/Safety.lean ====
section
/-! DEFINITION. The terms the statements use: which states a run can be in (`State.Inv`), where an operation stands, and the two changes of a state no rule can see (10_state.md R36, 60_exceptions.md R302). -/

namespace Sys2Proof

/-- A valid frame: it passes VALIDATE and starts with STX (30_encoding.md R91, 41_reassembler.md R155). -/
def IsFrame (f : Bytes) : Prop := validateFrame true f = true

/-- A concatenation of valid frames, as ACC always is (10_state.md R22, 40_framecodec.md R138). -/
def FrameSeq (b : Bytes) : Prop := ∃ fs : List Bytes, (∀ f ∈ fs, IsFrame f) ∧ b = fs.flatten

/-- The wait conditions of FEED, as the buffer shows them (41_reassembler.md R153, R157). -/
def AtWait (rb : Bytes) : Prop :=
  rb = [] ∨ (byteAt rb 0 = Config.stx ∧ rb.length ≤ 3) ∨
    (byteAt rb 0 = Config.stx ∧ 4 ≤ rb.length ∧ rb.length < needOf rb)

/-- A concatenation of valid frames none of which is terminal. -/
def NonTerminalSeq (b : Bytes) : Prop :=
  ∃ fs : List Bytes, (∀ f ∈ fs, IsFrame f ∧ Machine.isTerminal f = false) ∧ b = fs.flatten

/-- Valid frames none of which is terminal, then one that is: what TRANSACT returns with ST_TERMINAL (42_transactor.md R184). -/
def TerminatedSeq (b : Bytes) : Prop :=
  ∃ pre f, NonTerminalSeq pre ∧ IsFrame f ∧ Machine.isTerminal f = true ∧ b = pre ++ f

/-- The operations that use no port but the operation port: BUILD, VALIDATE, LASTFRAME, RBCLR, FEED, DECMODE, DECNACK (20_memory.md R60). -/
def Instr.isPure : Instr → Bool
  | .build _ _ _ => true
  | .validate _ => true
  | .lastframe _ => true
  | .rbclr => true
  | .feed _ => true
  | .decmode _ => true
  | .decnack _ => true
  | _ => false

/-- The operations that send a request with TRANSACT: TRANSACT itself and its four composites (30_encoding.md R115). -/
def Instr.isExchange : Instr → Bool
  | .transact _ _ _ => true
  | .rdfw _ => true
  | .rdmode _ => true
  | .wrmode _ => true
  | .buzzer _ _ _ => true
  | _ => false

/-- The operations that use the transport: the five above and INVENTORY (20_memory.md R60). -/
def Instr.usesTransport : Instr → Bool
  | .inventory _ => true
  | i => i.isExchange

/-- The operand `budget_ms` of an operation that uses the transport (00_scope.md R11 "Budget"). -/
def Instr.budget : Instr → Nat
  | .transact _ b _ => b
  | .rdfw b => b
  | .rdmode b => b
  | .wrmode b => b
  | .buzzer _ _ b => b
  | .inventory b => b
  | _ => 0

namespace Machine

/-- FEED applied to a sequence, one byte after the other: what is left in RB, and all frames emitted, in order (41_reassembler.md R156). -/
def feedAll (checksStx : Bool) : Bytes → Bytes → Bytes × List Bytes
  | rb, [] => (rb, [])
  | rb, b :: rest =>
    let now := scanAll checksStx (rb ++ [b])
    let later := feedAll checksStx now.1 rest
    (later.1, now.2 ++ later.2)

/-- A call of `T.write`. -/
def PortCall.isWrite : PortCall → Bool
  | .write _ _ => true
  | _ => false

/-- How often `T.write` was called (20_memory.md R62). -/
def Env.writeCount (e : Env) : Nat := e.calls.countP PortCall.isWrite

/-- Operation `i` is in progress and stands at `ph` (10_state.md R29, R32). -/
def State.At (s : State) (i : Instr) (ph : Phase) : Prop :=
  s.busy = true ∧ s.op = some i ∧ s.phase = ph

/-- The invariant of the machine: what holds after reset and after every step. -/
structure State.Inv (s : State) : Prop where
  /-- The parameters are as the spec demands (00_scope.md R6). -/
  cfg : s.cfg.WF
  /-- BUSY = 0 exactly in PHASE IDLE (10_state.md R32). -/
  busyPhase : s.busy = true ↔ s.phase ≠ .idle
  /-- BUSY = 1 exactly while an operation is in progress (10_state.md R29). -/
  busyOp : s.busy = true ↔ s.op.isSome = true
  /-- The operation in progress is a well-formed host operation (30_encoding.md R112). -/
  opHost : ∀ i, s.op = some i → i.isHostOp = true ∧ i.wf = true
  /-- An operation without a port knows START and FINISH only (10_state.md R32). -/
  purePhase : ∀ i, s.op = some i → i.isPure = true → s.phase = .start ∨ s.phase = .finish
  /-- RB is at a wait condition (41_reassembler.md R157). -/
  rb : AtWait s.rb
  /-- ACC is a concatenation of valid frames (10_state.md R22). -/
  acc : FrameSeq s.acc
  /-- The frames still to be handled are valid (41_reassembler.md R155). -/
  out : ∀ f ∈ s.out, IsFrame f
  /-- A byte waits for FEED in SCAN only (10_state.md R32). -/
  rxByte : s.rxByte ≠ none → s.phase = .scan
  /-- Frames wait in SCAN, or for the result of FEED (41_reassembler.md R152). -/
  outPhase : s.out ≠ [] → s.phase = .scan ∨ (s.phase = .finish ∧ ∃ b, s.op = some (.feed b))
  /-- `HAVE_UID = (len(ITEMS) >= 1)` (10_state.md R25). -/
  haveUid : s.haveUid = true ↔ 1 ≤ s.items.length
  /-- EXPECTED is -1 or 0 to 255 (10_state.md R24). -/
  expected : -1 ≤ s.expected ∧ s.expected ≤ 255
  /-- MODE_RAW holds at most 254 bytes (10_state.md R30). -/
  modeRaw : s.modeRaw.length ≤ 254

/-- The invariant of ACC while an operation that stops on a terminal frame runs: no terminal frame yet, or the end is recorded and the last frame is the terminal one (42_transactor.md R178, R184). -/
structure State.AccInv (s : State) : Prop where
  /-- The end `terminal` is recorded with its frame last in ACC. -/
  terminal : s.exchanging = true → s.cause = some .terminal → TerminatedSeq s.acc
  /-- A refused request leaves ACC empty (42_transactor.md R174). -/
  writeFailed : s.exchanging = true → s.cause = some .writeFailed → s.acc = []
  /-- While the loop runs no end is recorded. -/
  running : s.phase ≠ .finish → s.cause = none
  /-- ACC is empty until the request is sent (42_transactor.md R172). -/
  sending : s.exchanging = true → s.phase = .send → s.acc = []
  /-- While the loop runs ACC holds no terminal frame. -/
  nonTerminal : s.exchanging = true → s.stopsOnTerminal = true →
    (s.phase = .check ∨ s.phase = .poll ∨ s.phase = .backoff ∨ s.phase = .scan ∨
      (s.phase = .finish ∧ s.cause = some .timeout)) → NonTerminalSeq s.acc

/-- The state with every time value moved by `c` (10_state.md R36: "no rule depends on an absolute value, only on differences and comparisons"). -/
def State.shiftTime (c : Nat) (s : State) : State :=
  { s with
    deadline := s.deadline + c
    lastRx := s.lastRx + c
    env := { s.env with clock := s.env.clock + c } }

/-- The state without its ghost lists, the trace and the log of port calls (60_exceptions.md R302). -/
def State.eraseGhosts (s : State) : State :=
  { s with trace := [], env := { s.env with calls := [] } }

/-- A function on the next state of an outcome. -/
def mapNext (g : State → State) :
    Host.Outcome State Fault Refusal → Host.Outcome State Fault Refusal
  | .next s => .next (g s)
  | .fault r => .fault r
  | .refused r => .refused r

end Machine

end Sys2Proof
end

