-- ==== Sys2Proof/Certificates/Slice0/Obligations.lean ====
section
/-! DEFINITION. The statements for the provers, each with the rules of spec/ it formalises. -/

open Sys2Proof Sys2Proof.Machine

/-- With BUSY = 0 and no reset, where the request presented at the port, or the next request of the host's program, decodes to an instruction, the step is exec of that instruction at the state with the request taken, the done pulse and the port's answer of the last step gone. (The program as a field is log 5, that done and the port's answer last one step is log 14 and log 16: the model's choices.) (00_scope.md R8, 00_scope.md R10, log 5, log 14, log 16) -/
def Obligations.StepRunsPresentedRequest : Prop :=
  ∀ (s : State) (r : Request) (i : Instr), s.resetIn = false → s.busy = false → decode (.host r) = .ok i →
    (s.request = some r →
      step s = exec i { s with done := false, portAnswer := none, request := none }) ∧
    (∀ rest, s.request = none → s.program = r :: rest →
      step s = exec i { s with done := false, portAnswer := none, program := rest })

/-- With no reset and no request, while BUSY = 1: outside SEND and outside the frame loop of SCAN the step is exec of the operation in progress; in SEND, where the bytes to be written decode to one of the five request frames, it is exec of that frame, else the bytes are written as they are; in SCAN, where a frame is emitted and not yet handled, it is exec of the response frame it decodes to, with that frame taken. While BUSY = 0 and there is no program, nothing happens but that the done pulse and the port's answer end. (That SEND and SCAN run the decoded frame is log 2, that done and the port's answer end with the next step is log 14 and log 16: the model's choices.) (10_state.md R32, 00_scope.md R10, 42_transactor.md R173, 30_encoding.md R116, 70_reset_and_hazards.md R312, log 2, log 14, log 16) -/
def Obligations.StepContinuesTheOperation : Prop :=
  ∀ s : State, s.resetIn = false → s.request = none →
    (∀ i, s.busy = true → s.op = some i →
      (s.phase = .start ∨ s.phase = .check ∨ s.phase = .poll ∨ s.phase = .backoff ∨ s.phase = .finish ∨
        (s.phase = .scan ∧ (s.rxByte ≠ none ∨ s.out = []))) →
      step s = exec i { s with done := false, portAnswer := none }) ∧
    (∀ bytes, s.busy = true → s.phase = .send → s.requestBytes = some bytes →
      (∀ i, decode (.tx bytes) = .ok i → step s = exec i { s with done := false, portAnswer := none }) ∧
      (∀ e, decode (.tx bytes) = .error e →
        step s = .next (State.transmit bytes { s with done := false, portAnswer := none }))) ∧
    (∀ f rest i, s.busy = true → s.phase = .scan → s.rxByte = none → s.out = f :: rest →
      decode (.rx f) = .ok i →
      step s = exec i { s with done := false, portAnswer := none, out := rest }) ∧
    (s.busy = false → s.program = [] → step s = .next { s with done := false, portAnswer := none })

/-- In every state of the invariant, executing the request frame that SEND emits gives what executing the operation in progress gives there, and executing the response frame that SCAN decodes gives what executing the operation in progress gives there. (00_scope.md R10, 10_state.md R32, 30_encoding.md R115, log 2) -/
def Obligations.WireLevelAgreesWithOperation : Prop :=
  ∀ (s : State) (i : Instr), s.Inv → s.op = some i →
    (∀ bytes j, s.phase = .send → s.requestBytes = some bytes → decode (.tx bytes) = .ok j →
      exec i s = exec j s) ∧
    (∀ f rest j, s.phase = .scan → s.rxByte = none → s.out = f :: rest → decode (.rx f) = .ok j →
      exec i s = exec j { s with out := rest })

/-- With no reset, a request presented while BUSY = 1 is answered ST_BUSY, taken off the port and not queued, and no register changes; presented while BUSY = 0 and well formed, BUSY is set in the same step that tests it. A host operation executed while another one is in progress is answered ST_BUSY with nothing else changed. (That the rejection is a step of its own in which the operation in progress makes no engine step, and that done lasts one step, is log 14 and log 16: the model's choices.) (60_exceptions.md R290, log 14, log 16) -/
def Obligations.BusyPortTurnsRequestsAway : Prop :=
  ∀ s : State,
    (∀ r, s.resetIn = false → s.request = some r →
      (s.busy = true →
        step s = .next { s with done := false, portAnswer := some .busy, request := none }) ∧
      (∀ i, s.busy = false → decode (.host r) = .ok i →
        ∃ t, step s = .next t ∧ t.busy = true ∧ t.op = some i)) ∧
    (∀ i : Instr, i.isHostOp = true → s.busy = true → s.op ≠ some i →
      exec i s = .next { s with portAnswer := some .busy })

/-- With no reset, a request with op code 0x0, 0xE or 0xF, whatever its operands, presented at the port or offered by the host's program: while BUSY = 0, RES_STATUS becomes ST_ILLEGAL_OP, done is raised, no other register changes, BUSY stays 0 and the request is taken; presented while BUSY = 1 it is rejected as busy. (The program as a field is log 5, the port's answer beside RES_STATUS and its length, and that of done, are log 14 and log 16: the model's choices.) (30_encoding.md R113, 60_exceptions.md R290, 00_scope.md R10, log 5, log 14, log 16) -/
def Obligations.ReservedOpCodesAreRejected : Prop :=
  ∀ (s : State) (r : Request), s.resetIn = false → (r.opCode = 0x0 ∨ r.opCode = 0xE ∨ r.opCode = 0xF) →
    (s.request = some r → s.busy = false →
      step s = .next
        { s with resStatus := .illegalOp, done := true, portAnswer := some .illegalOp, request := none }) ∧
    (∀ rest, s.request = none → s.program = r :: rest → s.busy = false →
      step s = .next
        { s with resStatus := .illegalOp, done := true, portAnswer := some .illegalOp, program := rest }) ∧
    (s.request = some r → s.busy = true →
      step s = .next { s with done := false, portAnswer := some .busy, request := none })

/-- With no reset and BUSY = 0, a request at the port, or the next one of the host's program, that the decoder rejects for anything but a reserved op code is refused by name: the spec says it cannot be expressed, the refusal is the model's (log 3), and so is the program as a field (log 5). BUILD with more than 255 payload bytes is such a request. (30_encoding.md R111, 93_implementation_defined.md U1, log 3, log 5) -/
def Obligations.MisshapenRequestsAreRefused : Prop :=
  (∀ (s : State) (r : Request) (e : DecodeError), s.resetIn = false → s.busy = false →
    (s.request = some r ∨ (s.request = none ∧ s.program.head? = some r)) → decode (.host r) = .error e → e ≠ .reservedOpCode →
    step s = .refused .operandShape) ∧
  (∀ (addr cmd : Byte) (payload : Bytes), 255 < payload.length →
    decode (.host ⟨0x1, [.byte addr, .byte cmd, .bytes payload]⟩) = .error .payloadTooLong)

/-- Each of the thirteen host operations, executed while BUSY = 0, sets BUSY, is latched with its operands and stands at START; nothing else but the scratch latches changes. (00_scope.md R8, 10_state.md R29, 10_state.md R32, 20_memory.md R73) -/
def Obligations.AcceptanceStartsTheOperation : Prop :=
  ∀ (i : Instr) (s : State), i.isHostOp = true → s.busy = false →
    exec i s = .next
      { s with busy := true, phase := .start, op := some i, rxByte := none, out := [], cause := none }

/-- BUILD with at most 255 payload bytes, started idle, returns in three steps: RES_BYTES is STX, addr, cmd, the payload's length, the payload, ETX, the sum of all these bytes modulo 256, CR; RES_STATUS is ST_OK; nothing else but the other result registers and done changes. (The three steps are the model's, log 26.) (40_framecodec.md R131, 10_state.md R32, 10_state.md R33, log 26) -/
def Obligations.BuildRunsToItsFrame : Prop :=
  ∀ (addr cmd : Byte) (payload : Bytes) (s : State), s.busy = false → payload.length ≤ 255 →
    let body := [0x02, addr, cmd, BitVec.ofNat 8 payload.length] ++ payload ++ [0x03]
    let frame := body ++ [BitVec.ofNat 8 (body.map BitVec.toNat).sum, 0x0D]
    ∃ s1 s2, exec (.build addr cmd payload) s = .next s1 ∧ exec (.build addr cmd payload) s1 = .next s2 ∧ exec (.build addr cmd payload) s2 = .next
      { s with
        resStatus := .ok, resBytes := frame, resBool := true, resFrames := [], busy := false,
        phase := .idle, op := none, rxByte := none, out := [], cause := none, done := true }

/-- VALIDATE, started idle, returns in three steps with ST_OK; RES_BOOL is true exactly if the length is at least 7, 7 + b[3] is the length, ETX and CR stand at n-3 and n-1, b[n-2] is the sum of the bytes before it modulo 256, and, only where VALIDATE_CHECKS_STX is set, b[0] is STX. (The three steps are the model's, log 26.) (40_framecodec.md R134, 10_state.md R32, 10_state.md R33, log 26) -/
def Obligations.ValidateRunsToItsVerdict : Prop :=
  ∀ (b : Bytes) (s : State), s.busy = false →
    ∃ v : Bool,
      (v = true ↔
        7 ≤ b.length ∧ 7 + (byteAt b 3).toNat = b.length ∧ byteAt b (b.length - 3) = 0x03 ∧
          byteAt b (b.length - 1) = 0x0D ∧
          (byteAt b (b.length - 2)).toNat = ((b.take (b.length - 2)).map BitVec.toNat).sum % 256 ∧
          (s.cfg.checksStx = true → byteAt b 0 = 0x02)) ∧
      ∃ s1 s2, exec (.validate b) s = .next s1 ∧ exec (.validate b) s1 = .next s2 ∧ exec (.validate b) s2 = .next
      { s with
        resStatus := .ok, resBytes := [], resBool := v, resFrames := [], busy := false,
        phase := .idle, op := none, rxByte := none, out := [], cause := none, done := true }

/-- Every byte sequence is a sequence of steps, each as long as its own LEN byte says, and a rest that makes no whole step; LASTFRAME, started idle, returns in three steps the last of those steps, or nothing if there is none, and RES_BOOL says which. (The three steps are the model's, log 26.) (40_framecodec.md R137, 10_state.md R32, 10_state.md R33, log 26) -/
def Obligations.LastframeRunsToTheLastWholeStep : Prop :=
  ∀ (b : Bytes) (s : State), s.busy = false →
    ∃ (steps : List Bytes) (rest : Bytes), b = steps.flatten ++ rest ∧
      (∀ f ∈ steps, f.length = 7 + (byteAt f 3).toNat) ∧
      (rest.length < 4 ∨ rest.length < 7 + (byteAt rest 3).toNat) ∧
      ∃ s1 s2, exec (.lastframe b) s = .next s1 ∧ exec (.lastframe b) s1 = .next s2 ∧ exec (.lastframe b) s2 = .next
      { s with
        resStatus := .ok, resBytes := steps.getLastD [], resBool := !steps.isEmpty, resFrames := [], busy := false,
        phase := .idle, op := none, rxByte := none, out := [], cause := none, done := true }

/-- RBCLR, started idle, returns in three steps with RB empty and ST_OK; nothing else but the result registers and done changes. (The three steps are the model's, log 26.) (41_reassembler.md R151, 10_state.md R32, 10_state.md R33, log 26) -/
def Obligations.RbclrEmptiesTheBuffer : Prop :=
  ∀ s : State, s.busy = false →
    ∃ s1 s2, exec (.rbclr) s = .next s1 ∧ exec (.rbclr) s1 = .next s2 ∧ exec (.rbclr) s2 = .next
      { s with
        rb := [], resStatus := .ok, resBytes := [], resBool := true, resFrames := [], busy := false,
        phase := .idle, op := none, rxByte := none, out := [], cause := none, done := true }

/-- FEED, started idle, returns in three steps RB and RES_FRAMES as the loop of R152 leaves them on RB with the byte appended. The loop: an empty buffer and a buffer that starts with STX and is shorter than four bytes or than its need wait; a first byte that is not STX is discarded; a valid candidate is emitted, removed, and the scan goes on; a candidate that fails costs its first byte. (The three steps are the model's, log 26.) (41_reassembler.md R152, 10_state.md R32, 10_state.md R33, log 26) -/
def Obligations.FeedRunsTheReassemblyLoop : Prop :=
  (∀ (b : Byte) (s : State), s.busy = false →
    ∃ s1 s2, exec (.feed b) s = .next s1 ∧ exec (.feed b) s1 = .next s2 ∧ exec (.feed b) s2 = .next
      { s with
        rb := (scanAll s.cfg.checksStx (s.rb ++ [b])).1, resStatus := .ok, resBytes := [], resBool := true, resFrames := (scanAll s.cfg.checksStx (s.rb ++ [b])).2, busy := false,
        phase := .idle, op := none, rxByte := none, out := [], cause := none, done := true }) ∧
  (∀ c : Bool,
    scanAll c [] = ([], []) ∧
    (∀ b rb, b ≠ 0x02 → scanAll c (b :: rb) = scanAll c rb) ∧
    (∀ rb, byteAt rb 0 = 0x02 → (rb.length < 4 ∨ rb.length < 4 + (byteAt rb 3).toNat + 3) →
      scanAll c rb = (rb, [])) ∧
    (∀ rb, byteAt rb 0 = 0x02 → 4 ≤ rb.length → 4 + (byteAt rb 3).toNat + 3 ≤ rb.length →
      let need := 4 + (byteAt rb 3).toNat + 3
      (validateFrame c (rb.take need) = true →
        scanAll c rb = ((scanAll c (rb.drop need)).1, rb.take need :: (scanAll c (rb.drop need)).2)) ∧
      (validateFrame c (rb.take need) = false → scanAll c rb = scanAll c (rb.drop 1))))

/-- DECMODE, started idle with well-formed parameters, returns in three steps with ST_OK: from fewer than four bytes all fields are EMPTY; else the name of byte 0 if it is a key of MODE_NAME_TABLE and UNKNOWN of it if not, bits 2 to 5 of byte 2 (masks 0x04, 0x08, 0x10, 0x20) with the buzzer's polarity as BUZZER_SET_MEANS_ON says, and the label of the top two bits of byte 3. No other byte or bit is looked at, nothing but the result registers and done changes. (The three steps are the model's, log 26.) (45_translators.md R251, 45_translators.md R252, 45_translators.md R253, 45_translators.md R254, 45_translators.md R255, 45_translators.md R256, 10_state.md R32, 10_state.md R33, log 26) -/
def Obligations.DecmodeDecodesTheSixFields : Prop :=
  ∀ (raw : Bytes) (s : State), s.busy = false → s.cfg.WF →
    ∃ p : Pretty,
      (raw.length < 4 → p = ⟨.empty, .empty, .empty, .empty, .empty, .empty⟩) ∧
      (4 ≤ raw.length →
        let g := byteAt raw 2
        let sel := (byteAt raw 3).toNat / 64
        (∀ n, (byteAt raw 0, n) ∈ s.cfg.modeNames → p.modeName = .named n) ∧
        ((∀ n, (byteAt raw 0, n) ∉ s.cfg.modeNames) → p.modeName = .unknown (byteAt raw 0)) ∧
        p.anticollision = (if g &&& 0x04 = 0 then .disabled else .enabled) ∧
        p.readBehavior = (if g &&& 0x08 = 0 then .singleShot else .continuous) ∧
        (s.cfg.buzzerSetMeansOn = true → p.buzzer = if g &&& 0x10 = 0 then .off else .on) ∧
        (s.cfg.buzzerSetMeansOn = false → p.buzzer = if g &&& 0x10 = 0 then .on else .off) ∧
        p.txData = (if g &&& 0x20 = 0 then .userDataOnly else .userDataPlusUid) ∧
        (sel = 0 → p.baud = .b19200) ∧ (sel = 1 → p.baud = .b9600) ∧ (sel = 2 → p.baud = .b38400) ∧
        (sel = 3 → p.baud = .b115200)) ∧
      ∃ s1 s2, exec (.decmode raw) s = .next s1 ∧ exec (.decmode raw) s1 = .next s2 ∧ exec (.decmode raw) s2 = .next
      { s with
        resPretty := p, resStatus := .ok, resBytes := [], resBool := true, resFrames := [], busy := false,
        phase := .idle, op := none, rxByte := none, out := [], cause := none, done := true }

/-- DECNACK, started idle, returns in three steps with ST_OK: (NK_INVALID, NONE) for an input that fails VALIDATE or is no NACK; else by the code byte, 0x42 NK_SUM, 0x44 NK_FMT, any other byte or none NK_UNKNOWN, with the code. Nothing but the result registers and done changes. (The three steps are the model's, log 26.) (45_translators.md R261, 10_state.md R32, 10_state.md R33, log 26) -/
def Obligations.DecnackClassifiesTheCode : Prop :=
  ∀ (f : Bytes) (s : State), s.busy = false →
    ∃ n : Nack,
      (¬(validateFrame s.cfg.checksStx f = true ∧ byteAt f 2 = 0x31) → n = ⟨.invalid, none⟩) ∧
      (validateFrame s.cfg.checksStx f = true → byteAt f 2 = 0x31 →
        ((byteAt f 3).toNat = 0 → n = ⟨.unknown, none⟩) ∧
        (1 ≤ (byteAt f 3).toNat →
          (byteAt f 4 = 0x42 → n = ⟨.sum, some 0x42⟩) ∧ (byteAt f 4 = 0x44 → n = ⟨.fmt, some 0x44⟩) ∧
          (byteAt f 4 ≠ 0x42 → byteAt f 4 ≠ 0x44 → n = ⟨.unknown, some (byteAt f 4)⟩))) ∧
      ∃ s1 s2, exec (.decnack f) s = .next s1 ∧ exec (.decnack f) s1 = .next s2 ∧ exec (.decnack f) s2 = .next
      { s with
        resNack := n, resStatus := .ok, resBytes := [], resBool := true, resFrames := [], busy := false,
        phase := .idle, op := none, rxByte := none, out := [], cause := none, done := true }

/-- For every address, command and payload of at most 255 bytes, with either value of VALIDATE_CHECKS_STX: VALIDATE of the built frame is true, its first byte is STX, its fields are the ones given, its length is 7 more than the payload's, and no two inputs build the same frame. (40_framecodec.md R132) -/
def Obligations.BuiltFramesValidate : Prop :=
  (∀ (c : Bool) (addr cmd : Byte) (payload : Bytes), payload.length ≤ 255 →
    let f := buildFrame addr cmd payload
    validateFrame c f = true ∧ byteAt f 0 = 0x02 ∧ frameAddr f = addr ∧ frameCmd f = cmd ∧
      frameLen f = payload.length ∧ framePayload f = payload ∧ f.length = 7 + payload.length) ∧
  (∀ (a a' c c' : Byte) (p p' : Bytes), p.length ≤ 255 → p'.length ≤ 255 →
    buildFrame a c p = buildFrame a' c' p' → a = a' ∧ c = c' ∧ p = p')

/-- A sequence that differs from a valid one in exactly one byte fails VALIDATE; two valid frames of one length can differ in exactly two bytes; a sequence of another length whose LEN byte is that of a valid one fails. (40_framecodec.md R135) -/
def Obligations.SingleByteChangesAreDetected : Prop :=
  (∀ (c : Bool) (f g : Bytes) (i : Nat), validateFrame c f = true → g.length = f.length →
    i < f.length → byteAt g i ≠ byteAt f i → (∀ j, j ≠ i → byteAt g j = byteAt f j) →
    validateFrame c g = false) ∧
  (∃ (f g : Bytes) (i j : Nat), validateFrame true f = true ∧ validateFrame true g = true ∧
    g.length = f.length ∧ i ≠ j ∧ byteAt g i ≠ byteAt f i ∧ byteAt g j ≠ byteAt f j ∧
    (∀ k, k ≠ i → k ≠ j → byteAt g k = byteAt f k)) ∧
  (∀ (c : Bool) (f g : Bytes), validateFrame c f = true → byteAt g 3 = byteAt f 3 →
    g.length ≠ f.length → validateFrame c g = false)

/-- For every list of valid frames the walk of LASTFRAME over their concatenation returns the last of them, NONE for the empty list. (40_framecodec.md R138) -/
def Obligations.LastFrameOfAFrameSequence : Prop :=
  ∀ (c : Bool) (fs : List Bytes), (∀ f ∈ fs, validateFrame c f = true) →
    lastFrame fs.flatten = fs.getLast?

/-- RB is at a wait condition at reset; from a wait condition, where it holds at most 261 bytes, one FEED leads to a wait condition; with the byte appended it holds at most 262. (41_reassembler.md R157, 41_reassembler.md R158) -/
def Obligations.WaitConditionIsKept : Prop :=
  AtWait State.reset.rb ∧
  (∀ rb, AtWait rb → rb.length ≤ 261) ∧
  (∀ (c : Bool) (rb : Bytes) (b : Byte), AtWait rb →
    (rb ++ [b]).length ≤ 262 ∧ AtWait (scanAll c (rb ++ [b])).1)

/-- From a buffer at a wait condition, feeding a byte sequence one byte at a time emits the same frames in the same order, and leaves the same RB, as appending the whole sequence and running the loop once. (41_reassembler.md R156) -/
def Obligations.FeedingIsIndependentOfFragmentation : Prop :=
  ∀ (c : Bool) (rb s : Bytes), AtWait rb → feedAll c rb s = scanAll c (rb ++ s)

/-- The buffered bytes and the bytes fed are, in order: before each emitted frame some discarded bytes, then the frame; after the last one some discarded bytes and what is left in RB. Each emitted frame satisfies VALIDATE and starts with STX. (41_reassembler.md R155) -/
def Obligations.EmittedFramesAreDisjointSlices : Prop :=
  ∀ (c : Bool) (rb s : Bytes), ∃ (gaps : List Bytes) (last : Bytes),
    gaps.length = (feedAll c rb s).2.length ∧
    rb ++ s =
      (List.zipWith (· ++ ·) gaps (feedAll c rb s).2).flatten ++ last ++ (feedAll c rb s).1 ∧
    ∀ f ∈ (feedAll c rb s).2, validateFrame c f = true ∧ byteAt f 0 = 0x02

/-- From an empty RB: noise bytes none of which is STX, then a valid frame, emit exactly that frame and leave RB empty; a frame that fails VALIDATE, of the length its LEN byte says, with no STX after its first byte, followed by a valid frame, emits exactly the second and leaves RB empty. (41_reassembler.md R160, 41_reassembler.md R154) -/
def Obligations.NoiseAndCorruptionAreRecovered : Prop :=
  (∀ (c : Bool) (noise f : Bytes), (∀ b ∈ noise, b ≠ 0x02) → IsFrame f →
    feedAll c [] (noise ++ f) = ([], [f])) ∧
  (∀ (c : Bool) (bad f : Bytes), byteAt bad 0 = 0x02 → bad.length = 7 + (byteAt bad 3).toNat →
    validateFrame c bad = false → (∀ b ∈ bad.drop 1, b ≠ 0x02) → IsFrame f →
    feedAll c [] (bad ++ f) = ([], [f]))

/-- At START of TRANSACT the deadline becomes the sample plus the budget, RB and ACC become empty, and SEND is next; RDFW, RDMODE, WRMODE with at least four bytes in MODE_RAW, and BUZZER do the same after their start comment. Nothing else changes. (42_transactor.md R172, 43_commandset.md R191, 10_state.md R27) -/
def Obligations.ExchangeStartFixesTheDeadline : Prop :=
  ∀ (s : State) (b : Nat),
    (∀ bytes stop, s.At (.transact bytes b stop) .start →
      exec (.transact bytes b stop) s = .next { s with
        env := s.env.afterNow, deadline := s.env.afterNow.clock + b, rb := [], acc := [], phase := .send }) ∧
    (s.At (.rdfw b) .start → exec (.rdfw b) s = .next { s with
        env := s.env.afterNow, deadline := s.env.afterNow.clock + b, rb := [], acc := [], phase := .send,
        trace := s.trace ++ [.cmt (.opStart .rdfw)] }) ∧
    (s.At (.rdmode b) .start → exec (.rdmode b) s = .next { s with
        env := s.env.afterNow, deadline := s.env.afterNow.clock + b, rb := [], acc := [], phase := .send,
        trace := s.trace ++ [.cmt (.opStart .rdmode)] }) ∧
    (4 ≤ s.modeRaw.length → s.At (.wrmode b) .start → exec (.wrmode b) s = .next { s with
        env := s.env.afterNow, deadline := s.env.afterNow.clock + b, rb := [], acc := [], phase := .send,
        trace := s.trace ++ [.cmt (.opStart .wrmode)] }) ∧
    (∀ rt st, s.At (.buzzer rt st b) .start → exec (.buzzer rt st b) s = .next { s with
        env := s.env.afterNow, deadline := s.env.afterNow.clock + b, rb := [], acc := [], phase := .send,
        trace := s.trace ++ [.cmt (.opStart .buzzer)] })

/-- WRMODE started idle with fewer than four bytes in MODE_RAW returns in three steps false with ST_FAIL_PRECOND: one comment is traced, no port is used (the environment is as before), RB, ACC and DEADLINE keep their values. After reset MODE_RAW is that short. (The three steps, from START to FINISH with the end latched, are the model's, log 28.) (43_commandset.md R206, 10_state.md R32, 10_state.md R42, log 28) -/
def Obligations.WrmodeFailsWithoutItsPrecondition : Prop :=
  State.reset.modeRaw = [] ∧
  ∀ (b : Nat) (s : State), s.busy = false → s.modeRaw.length < 4 →
    ∃ s1 s2, exec (.wrmode b) s = .next s1 ∧ exec (.wrmode b) s1 = .next s2 ∧ exec (.wrmode b) s2 = .next
      { s with
        trace := s.trace ++ [.cmt .precond], resStatus := .failPrecond, resBytes := [], resBool := false, resFrames := [], busy := false,
        phase := .idle, op := none, rxByte := none, out := [], cause := none, done := true }

/-- In SEND each of the five request frames, and the unchecked operand of TRANSACT whatever bytes it has, is traced and written in one call; the answer true leads to CHECK; the answer false is commented, recorded, sets ERR in INVENTORY only, and leads to FINISH. Nothing else changes. A request frame executed anywhere but in SEND has no effect (log 2); a REQ_INVENTORY with more than 254 extra bytes is no instruction, and what is said of it is log 29. (42_transactor.md R173, 42_transactor.md R174, 44_inventory.md R222, 30_encoding.md R95, 30_encoding.md R96, 30_encoding.md R97, 30_encoding.md R98, 30_encoding.md R100, log 2, log 29) -/
def Obligations.RequestsAreTracedAndWritten : Prop :=
  ∀ s : State,
    (∀ i f, encode i = .tx f →
      (s.busy = true → s.phase = .send → exec i s = .next
        (if s.env.writeAnswer then
          { s with trace := s.trace ++ [.send f], env := s.env.afterWrite f, phase := .check }
        else
          { s with
            trace := s.trace ++ [.send f, .cmt .writeFailed], env := s.env.afterWrite f
            err := if s.collecting then .writeFailed else s.err
            cause := some .writeFailed, phase := .finish })) ∧
      (¬(s.busy = true ∧ s.phase = .send) → exec i s = .next s)) ∧
    (∀ f b stop, s.At (.transact f b stop) .send → exec (.transact f b stop) s = .next
        (if s.env.writeAnswer then
          { s with trace := s.trace ++ [.send f], env := s.env.afterWrite f, phase := .check }
        else
          { s with
            trace := s.trace ++ [.send f, .cmt .writeFailed], env := s.env.afterWrite f
            err := if s.collecting then .writeFailed else s.err
            cause := some .writeFailed, phase := .finish }))

/-- In CHECK of each of the six operations that use the transport the time is sampled once; if the sample is at or after DEADLINE a timeout comment is traced, the timeout is recorded and FINISH is next; else POLL is next. Nothing else changes. (42_transactor.md R176, 44_inventory.md R226, 44_inventory.md R229) -/
def Obligations.DeadlineTestEndsTheLoop : Prop :=
  ∀ (i : Instr) (s : State), i.usesTransport = true → s.At i .check →
    exec i s = .next
      (if s.deadline ≤ s.env.afterNow.clock then
        { s with
          env := s.env.afterNow, trace := s.trace ++ [.cmt .timeout]
          cause := some .timeout, phase := .finish }
      else { s with env := s.env.afterNow, phase := .poll })

/-- In POLL of each operation that uses the transport one byte is asked for with POLL_TIMEOUT_MS: on none BACKOFF is next, on a byte SCAN with it, without a back-off. BACKOFF sleeps BACKOFF_MS and goes to CHECK in TRANSACT and its composites, to a check point of the termination race in INVENTORY. The defaults are 10 and 1. (42_transactor.md R175, 44_inventory.md R226, 10_state.md R32, 10_state.md R34, 00_scope.md R6) -/
def Obligations.PollsAreFollowedByBackoffOnlyWhenEmpty : Prop :=
  (∀ (i : Instr) (s : State), i.usesTransport = true → s.At i .poll →
    (s.env.readAnswer = none →
      exec i s = .next { s with env := s.env.afterRead s.cfg.pollMs, phase := .backoff }) ∧
    (∀ b, s.env.readAnswer = some b →
      exec i s = .next
        { s with env := s.env.afterRead s.cfg.pollMs, rxByte := some b, phase := .scan })) ∧
  (∀ (i : Instr) (s : State), i.isExchange = true → s.At i .backoff →
    exec i s = .next { s with env := s.env.afterSleep s.cfg.backoffMs, phase := .check }) ∧
  (∀ (b : Nat) (s : State), s.At (.inventory b) .backoff →
    exec (.inventory b) s =
      .next (State.raceCheck { s with env := s.env.afterSleep s.cfg.backoffMs })) ∧
  State.reset.cfg.pollMs = 10 ∧ State.reset.cfg.backoffMs = 1

/-- In SCAN with a byte waiting, TRANSACT and its composites feed it: RB and the frames to be handled are what the loop of FEED leaves; CHECK is next if there is no frame. INVENTORY first sets LAST_RX to a sample of the time, whatever the byte is. With neither a byte nor a frame CHECK is next. (42_transactor.md R170, 44_inventory.md R226, 41_reassembler.md R152) -/
def Obligations.EveryReceivedByteIsFed : Prop :=
  ∀ (i : Instr) (s : State), s.At i .scan →
    let r := scanAll s.cfg.checksStx
    (∀ b, i.isExchange = true → s.rxByte = some b →
      exec i s = .next
        { s with
          rb := (r (s.rb ++ [b])).1, out := (r (s.rb ++ [b])).2, rxByte := none
          phase := if (r (s.rb ++ [b])).2 = [] then .check else .scan }) ∧
    (∀ b budget, i = .inventory budget → s.rxByte = some b →
      exec i s = .next
        { s with
          env := s.env.afterNow, lastRx := s.env.afterNow.clock
          rb := (r (s.rb ++ [b])).1, out := (r (s.rb ++ [b])).2, rxByte := none
          phase := if (r (s.rb ++ [b])).2 = [] then .check else .scan }) ∧
    (i.usesTransport = true → s.rxByte = none → s.out = [] →
      exec i s = .next { s with phase := .check })

/-- In SCAN of TRANSACT or a composite each of the four response frames is traced and appended whole to ACC. RSP_ACK and RSP_NACK end the loop where stop_on_terminal is set: the other frames of the pass are dropped. RSP_UID and RSP_OTHER, and the terminal frames where it is not set, go on. Nothing else changes. A response frame executed anywhere but in the frame loop of SCAN has no effect (log 2). RSP_OTHER is a frame whose command code is none of 0x30, 0x31, 0x49; a payload of more than 255 bytes is no instruction, and what is said of it is log 29. (42_transactor.md R177, 42_transactor.md R178, 42_transactor.md R180, 30_encoding.md R101, 30_encoding.md R102, 30_encoding.md R103, 30_encoding.md R105, log 2, log 29) -/
def Obligations.ExchangeHandlesResponses : Prop :=
  ∀ (s : State) (addr : Byte) (payload : Bytes),
    (s.busy = true → s.phase = .scan → s.rxByte = none → s.exchanging = true →
      let goOn := fun f : Bytes =>
        { s with
          trace := s.trace ++ [.recv f], acc := s.acc ++ f
          phase := if s.out = [] then Phase.check else Phase.scan }
      let stop := fun f : Bytes =>
        { s with
          trace := s.trace ++ [.recv f], acc := s.acc ++ f
          out := [], cause := some EndCause.terminal, phase := Phase.finish }
      exec (.rspAck addr payload) s = .next
        (if s.stopsOnTerminal then stop (buildFrame addr 0x30 payload)
          else goOn (buildFrame addr 0x30 payload)) ∧
      exec (.rspNack addr payload) s = .next
        (if s.stopsOnTerminal then stop (buildFrame addr 0x31 payload)
          else goOn (buildFrame addr 0x31 payload)) ∧
      exec (.rspUid addr payload) s = .next (goOn (buildFrame addr 0x49 payload)) ∧
      ∀ cmd, isClassified cmd = false →
        exec (.rspOther addr cmd payload) s = .next (goOn (buildFrame addr cmd payload))) ∧
    (∀ i f, encode i = .rx f →
      ¬(s.busy = true ∧ s.phase = .scan ∧ s.rxByte = none ∧ (s.exchanging = true ∨ s.collecting = true)) →
      exec i s = .next s)

/-- At FINISH, TRANSACT returns nothing with ST_FAIL_WRITE after a refused write, ACC with ST_TERMINAL after a terminal frame, ACC with ST_TIMEOUT after the deadline; RES_BOOL is false; nothing but the result registers and done changes. (42_transactor.md R171, 42_transactor.md R174, 42_transactor.md R179, 10_state.md R33) -/
def Obligations.TransactReturnsItsOutcome : Prop :=
  ∀ (bytes : Bytes) (b : Nat) (stop : Bool) (s : State), s.At (.transact bytes b stop) .finish →
    (s.cause = some .writeFailed → exec (.transact bytes b stop) s = .next
      { s with
        resStatus := .failWrite, resBytes := [], resBool := false, resFrames := [], busy := false,
        phase := .idle, op := none, rxByte := none, out := [], cause := none, done := true }) ∧
    (s.cause = some .terminal → exec (.transact bytes b stop) s = .next
      { s with
        resStatus := .terminal, resBytes := s.acc, resBool := false, resFrames := [], busy := false,
        phase := .idle, op := none, rxByte := none, out := [], cause := none, done := true }) ∧
    (s.cause = some .timeout → exec (.transact bytes b stop) s = .next
      { s with
        resStatus := .timeout, resBytes := s.acc, resBool := false, resFrames := [], busy := false,
        phase := .idle, op := none, rxByte := none, out := [], cause := none, done := true })

/-- At FINISH of each of the four composites (WRMODE after its precondition): with no frame in ACC the status is ST_FAIL_WRITE after a refused write, else ST_FAIL_NOFRAME with a comment; a valid last frame that is a NACK sets RES_NACK to its decoding, is commented, and gives ST_NACK_SUM for code 0x42, ST_NACK_FMT for 0x44, ST_NACK_UNKNOWN otherwise, a NACK without a code included. RES_BYTES is empty, RES_BOOL false; MODE_RAW and everything else is unchanged. (43_commandset.md R191, 43_commandset.md R192, 43_commandset.md R196, 43_commandset.md R201, 43_commandset.md R207, 43_commandset.md R212) -/
def Obligations.CompositesShareTheirFailures : Prop :=
  ∀ (i : Instr) (s : State),
    ((∃ b, i = .rdfw b) ∨ (∃ b, i = .rdmode b) ∨ (∃ b, i = .wrmode b ∧ s.cause ≠ some .precond) ∨
      (∃ rt st b, i = .buzzer rt st b)) →
    s.At i .finish →
    (lastFrame s.acc = none → s.cause = some .writeFailed → exec i s = .next
      { s with
        resStatus := .failWrite, resBytes := [], resBool := false, resFrames := [], busy := false,
        phase := .idle, op := none, rxByte := none, out := [], cause := none, done := true }) ∧
    (lastFrame s.acc = none → s.cause ≠ some .writeFailed → exec i s = .next
      { s with
        trace := s.trace ++ [.cmt .noFrame], resStatus := .failNoframe, resBytes := [], resBool := false, resFrames := [], busy := false,
        phase := .idle, op := none, rxByte := none, out := [], cause := none, done := true }) ∧
    (∀ f, lastFrame s.acc = some f → IsFrame f → byteAt f 2 = 0x31 →
      (1 ≤ frameLen f → byteAt f 4 = 0x42 → ∃ n : Nack, n = ⟨.sum, some 0x42⟩ ∧ exec i s = .next
        { s with
        resNack := n, trace := s.trace ++ [.cmt (.nack n.kind)], resStatus := .nackSum, resBytes := [], resBool := false, resFrames := [], busy := false,
        phase := .idle, op := none, rxByte := none, out := [], cause := none, done := true }) ∧
      (1 ≤ frameLen f → byteAt f 4 = 0x44 → ∃ n : Nack, n = ⟨.fmt, some 0x44⟩ ∧ exec i s = .next
        { s with
        resNack := n, trace := s.trace ++ [.cmt (.nack n.kind)], resStatus := .nackFmt, resBytes := [], resBool := false, resFrames := [], busy := false,
        phase := .idle, op := none, rxByte := none, out := [], cause := none, done := true }) ∧
      (1 ≤ frameLen f → byteAt f 4 ≠ 0x42 → byteAt f 4 ≠ 0x44 →
        ∃ n : Nack, n = ⟨.unknown, some (byteAt f 4)⟩ ∧ exec i s = .next
        { s with
        resNack := n, trace := s.trace ++ [.cmt (.nack n.kind)], resStatus := .nackUnknown, resBytes := [], resBool := false, resFrames := [], busy := false,
        phase := .idle, op := none, rxByte := none, out := [], cause := none, done := true }) ∧
      (frameLen f = 0 → ∃ n : Nack, n = ⟨.unknown, none⟩ ∧ exec i s = .next
        { s with
        resNack := n, trace := s.trace ++ [.cmt (.nack n.kind)], resStatus := .nackUnknown, resBytes := [], resBool := false, resFrames := [], busy := false,
        phase := .idle, op := none, rxByte := none, out := [], cause := none, done := true }))

/-- At FINISH of RDFW with a valid last frame that is no NACK: an ACK with a payload whose first byte is 0x90 gives ST_OK and, in RES_BYTES, the bytes 0x20 to 0x7E of its data section in order, reformatted as first, dot, next two, space, remainder where at least four remain, unchanged otherwise; any other frame gives an empty RES_BYTES and ST_FAIL_BADRESP with a comment. Nothing but the result registers, the trace and done changes. (43_commandset.md R193, 43_commandset.md R195, 43_commandset.md R196) -/
def Obligations.RdfwReturnsTheVersionText : Prop :=
  ∀ (b : Nat) (s : State) (f : Bytes), s.At (.rdfw b) .finish → lastFrame s.acc = some f → IsFrame f →
    byteAt f 2 ≠ 0x31 →
    (byteAt f 2 = 0x30 → 1 ≤ frameLen f → byteAt f 4 = 0x90 →
      ∃ t text : Bytes,
        t = ((f.drop 5).take (frameLen f - 1)).filter
          (fun c => decide (0x20 ≤ c.toNat ∧ c.toNat ≤ 0x7E)) ∧
        (4 ≤ t.length → text = [byteAt t 0, 0x2E, byteAt t 1, byteAt t 2, 0x20] ++ t.drop 3) ∧
        (t.length < 4 → text = t) ∧
        exec (.rdfw b) s = .next
      { s with
        trace := s.trace ++ [.cmt (.value .rdfw)], resStatus := .ok, resBytes := text, resBool := true, resFrames := [], busy := false,
        phase := .idle, op := none, rxByte := none, out := [], cause := none, done := true }) ∧
    (¬(byteAt f 2 = 0x30 ∧ 1 ≤ frameLen f ∧ byteAt f 4 = 0x90) → exec (.rdfw b) s = .next
      { s with
        trace := s.trace ++ [.cmt .badResp], resStatus := .failBadresp, resBytes := [], resBool := false, resFrames := [], busy := false,
        phase := .idle, op := none, rxByte := none, out := [], cause := none, done := true })

/-- At FINISH of RDMODE with a valid last frame that is no NACK: an ACK with a payload whose first byte is 0x00 gives true, ST_OK and MODE_RAW = f[5 .. 4+LEN); any other frame gives false and ST_FAIL_BADRESP with a comment, MODE_RAW unchanged. Nothing else but the result registers, the trace and done changes. (43_commandset.md R199, 43_commandset.md R200, 43_commandset.md R201) -/
def Obligations.RdmodeCapturesTheMode : Prop :=
  ∀ (b : Nat) (s : State) (f : Bytes), s.At (.rdmode b) .finish → lastFrame s.acc = some f → IsFrame f →
    byteAt f 2 ≠ 0x31 →
    (byteAt f 2 = 0x30 → 1 ≤ frameLen f → byteAt f 4 = 0x00 → exec (.rdmode b) s = .next
      { s with
        modeRaw := (f.drop 5).take (frameLen f - 1), trace := s.trace ++ [.cmt (.value .rdmode)], resStatus := .ok, resBytes := [], resBool := true, resFrames := [], busy := false,
        phase := .idle, op := none, rxByte := none, out := [], cause := none, done := true }) ∧
    (¬(byteAt f 2 = 0x30 ∧ 1 ≤ frameLen f ∧ byteAt f 4 = 0x00) → exec (.rdmode b) s = .next
      { s with
        trace := s.trace ++ [.cmt .badResp], resStatus := .failBadresp, resBytes := [], resBool := false, resFrames := [], busy := false,
        phase := .idle, op := none, rxByte := none, out := [], cause := none, done := true })

/-- At FINISH of WRMODE after its precondition, and of BUZZER, with a valid last frame that is no NACK: an ACK, whatever its payload, gives true and ST_OK; any other frame gives false and ST_FAIL_BADRESP with a comment. MODE_RAW is unchanged, and so is everything but the result registers, the trace and done. (43_commandset.md R204, 43_commandset.md R207, 43_commandset.md R208, 43_commandset.md R210, 43_commandset.md R212) -/
def Obligations.WrmodeAndBuzzerNeedAnAck : Prop :=
  ∀ (i : Instr) (s : State) (f : Bytes),
    ((∃ b, i = .wrmode b ∧ s.cause ≠ some .precond) ∨ (∃ rt st b, i = .buzzer rt st b)) →
    s.At i .finish → lastFrame s.acc = some f → IsFrame f → byteAt f 2 ≠ 0x31 →
    (byteAt f 2 = 0x30 → exec i s = .next
      { s with
        resStatus := .ok, resBytes := [], resBool := true, resFrames := [], busy := false,
        phase := .idle, op := none, rxByte := none, out := [], cause := none, done := true }) ∧
    (byteAt f 2 ≠ 0x30 → exec i s = .next
      { s with
        trace := s.trace ++ [.cmt .badResp], resStatus := .failBadresp, resBytes := [], resBool := false, resFrames := [], busy := false,
        phase := .idle, op := none, rxByte := none, out := [], cause := none, done := true })

/-- At START of INVENTORY one sample fixes DEADLINE, the sample plus the budget, and LAST_RX; RB and ITEMS are empty, EXPECTED is -1, HAVE_UID is 0, ERR is ER_NONE; the start comment is traced and SEND is next. ACC, MODE_RAW and everything else is unchanged. (R220 says of INVENTORY: ACC and MODE_RAW are untouched; R72 lists ACC among what the start of a transmitting operation clears; the model follows R220, log 17.) (44_inventory.md R220, 44_inventory.md R221, 20_memory.md R72, log 17) -/
def Obligations.InventoryStartClearsItsResults : Prop :=
  ∀ (b : Nat) (s : State), s.At (.inventory b) .start →
    exec (.inventory b) s = .next
      { s with
        env := s.env.afterNow, deadline := s.env.afterNow.clock + b, lastRx := s.env.afterNow.clock
        rb := [], items := [], expected := -1, haveUid := false, err := .clear
        trace := s.trace ++ [.cmt (.opStart .inventory)], phase := .send }

/-- In SCAN of INVENTORY each of the four response frames is traced. RSP_ACK with payload 0xF0, n, ... sets EXPECTED to n; RSP_UID with nine payload bytes or more appends one item, DSFID first, the UID reversed, and sets HAVE_UID; RSP_NACK sets ERR by its code, is commented and ends the loop with the other frames of the pass dropped, items and EXPECTED kept; every other ACK, UID or other frame changes nothing; RSP_OTHER is one whose command code is none of 0x30, 0x31, 0x49. After all but the NACK comes one check point of the termination race. Nothing else changes. (What executing a response frame means is log 2.) (44_inventory.md R223, 44_inventory.md R224, 44_inventory.md R225, 44_inventory.md R227, 20_memory.md R67, 30_encoding.md R105, log 2) -/
def Obligations.InventoryHandlesResponses : Prop :=
  ∀ (s : State) (addr : Byte) (payload : Bytes), payload.length ≤ 255 → s.busy = true → s.phase = .scan →
    s.rxByte = none → s.collecting = true →
    (∀ n rest, payload = 0xF0 :: n :: rest → exec (.rspAck addr payload) s = .next (State.raceCheck
      { s with
        trace := s.trace ++ [.recv (buildFrame addr 0x30 payload)], expected := (n.toNat : Int) })) ∧
    ((∀ n rest, payload ≠ 0xF0 :: n :: rest) → exec (.rspAck addr payload) s = .next (State.raceCheck
      { s with trace := s.trace ++ [.recv (buildFrame addr 0x30 payload)] })) ∧
    (∀ d w0 w1 w2 w3 w4 w5 w6 w7 rest,
      payload = d :: w0 :: w1 :: w2 :: w3 :: w4 :: w5 :: w6 :: w7 :: rest →
      exec (.rspUid addr payload) s = .next (State.raceCheck
        { s with
          trace := s.trace ++ [.recv (buildFrame addr 0x49 payload)]
          items := s.items ++ [⟨#v[w7, w6, w5, w4, w3, w2, w1, w0], d⟩], haveUid := true })) ∧
    (payload.length < 9 → exec (.rspUid addr payload) s = .next (State.raceCheck
      { s with trace := s.trace ++ [.recv (buildFrame addr 0x49 payload)] })) ∧
    (∃ (kind : NackKind) (e : InvError),
      ((payload.head? = some 0x42 ∧ kind = .sum ∧ e = .nackSum) ∨
        (payload.head? = some 0x44 ∧ kind = .fmt ∧ e = .nackFmt) ∨
        (payload.head? ≠ some 0x42 ∧ payload.head? ≠ some 0x44 ∧ kind = .unknown ∧ e = .nackUnknown)) ∧
      exec (.rspNack addr payload) s = .next
        { s with
          trace := s.trace ++ [.recv (buildFrame addr 0x31 payload), .cmt (.nack kind)], err := e
          out := [], cause := some .nack, phase := .finish }) ∧
    (∀ cmd, isClassified cmd = false → exec (.rspOther addr cmd payload) s = .next (State.raceCheck
      { s with trace := s.trace ++ [.recv (buildFrame addr cmd payload)] }))

/-- At a check point: if EXPECTED is known and reached the loop ends, without a time sample; else, if a UID was received, the time is sampled and the loop ends exactly if the silence since LAST_RX is more than SILENCE_MS; else it goes on, without a sample if no UID was received. The default threshold is 120. Nothing else changes. (44_inventory.md R226, 44_inventory.md R228) -/
def Obligations.TerminationRaceOfInventory : Prop :=
  State.reset.cfg.silenceMs = 120 ∧
  ∀ s : State,
    let reached := 0 ≤ s.expected ∧ s.expected ≤ (s.items.length : Int)
    (reached → s.raceCheck = { s with out := [], cause := some .collected, phase := .finish }) ∧
    (¬reached → s.haveUid = true → s.env.afterNow.clock - s.lastRx > s.cfg.silenceMs →
      s.raceCheck =
        { s with env := s.env.afterNow, out := [], cause := some .collected, phase := .finish }) ∧
    (¬reached → s.haveUid = true → s.env.afterNow.clock - s.lastRx ≤ s.cfg.silenceMs →
      s.raceCheck = { s with env := s.env.afterNow, phase := if s.out = [] then .check else .scan }) ∧
    (¬reached → s.haveUid = false →
      s.raceCheck = { s with phase := if s.out = [] then .check else .scan })

/-- At FINISH of INVENTORY: with no item and no error ERR becomes ER_NO_TAGS, commented, with ST_NO_TAGS; else RES_STATUS mirrors ERR. So it never returns ST_OK without an item. Nothing but ERR, the trace, the result registers and done changes. (44_inventory.md R230, 44_inventory.md R231, 10_state.md R32, 10_state.md R33) -/
def Obligations.InventoryNeverReturnsAnEmptySuccess : Prop :=
  ∀ (b : Nat) (s : State), s.At (.inventory b) .finish →
    (s.items = [] → s.err = .clear → exec (.inventory b) s = .next
      { s with
        err := .noTags, trace := s.trace ++ [.cmt .noTags], resStatus := .noTags, resBytes := [], resBool := false, resFrames := [], busy := false,
        phase := .idle, op := none, rxByte := none, out := [], cause := none, done := true }) ∧
    (¬(s.items = [] ∧ s.err = .clear) →
      ∃ st : Status,
        (s.err = .clear → st = .ok) ∧ (s.err = .noTags → st = .noTags) ∧
        (s.err = .writeFailed → st = .failWrite) ∧ (s.err = .nackSum → st = .nackSum) ∧
        (s.err = .nackFmt → st = .nackFmt) ∧ (s.err = .nackUnknown → st = .nackUnknown) ∧
        exec (.inventory b) s = .next
      { s with
        resStatus := st, resBytes := [], resBool := decide (st = .ok), resFrames := [], busy := false,
        phase := .idle, op := none, rxByte := none, out := [], cause := none, done := true }) ∧
    (∀ t, exec (.inventory b) s = .next t → t.resStatus = .ok → t.items ≠ [])

/-- In a step without a reset MODE_RAW keeps its value, or the step is the return of an RDMODE whose last frame is a valid ACK with detail 0x00, it holds that frame's data section whole, and RES_STATUS is ST_OK. (10_state.md R30, 43_commandset.md R201, 43_commandset.md R208, 60_exceptions.md R278) -/
def Obligations.ModeRawIsWrittenOnlyByASuccessfulRdmode : Prop :=
  ∀ s t : State, s.resetIn = false → step s = .next t →
    t.modeRaw = s.modeRaw ∨
      ∃ b f, s.op = some (.rdmode b) ∧ s.phase = .finish ∧ lastFrame s.acc = some f ∧
        validateFrame s.cfg.checksStx f = true ∧ byteAt f 2 = 0x30 ∧ 1 ≤ frameLen f ∧ byteAt f 4 = 0x00 ∧
        t.modeRaw = (f.drop 5).take (frameLen f - 1) ∧ t.resStatus = .ok ∧ t.resBool = true

/-- In every step the parameters keep their values. In a step without a reset: ITEMS, EXPECTED, ERR, HAVE_UID and LAST_RX keep theirs unless INVENTORY is in progress; ACC unless TRANSACT or a composite is; DEADLINE unless the step is a START; RB unless RBCLR, FEED, INVENTORY, TRANSACT or a composite is in progress, and then in START and SCAN only; the result registers RES_STATUS, RES_BYTES, RES_BOOL, RES_FRAMES, RES_NACK and RES_PRETTY unless the step is a FINISH, but that RES_STATUS becomes ST_ILLEGAL_OP where a reserved op code is rejected while BUSY = 0; RES_PRETTY unless DECMODE is in progress; RES_NACK unless DECNACK or one of the four composites is. (That INVENTORY leaves ACC and RES_NACK as they are is log 17: R220 and R33 against R72's list.) (10_state.md R21, 10_state.md R22, 10_state.md R23, 10_state.md R24, 10_state.md R25, 10_state.md R26, 10_state.md R27, 10_state.md R28, 10_state.md R33, 10_state.md R34, 30_encoding.md R113, log 17) -/
def Obligations.RegistersHaveTheirWritersOnly : Prop :=
  ∀ s t : State, step s = .next t → t.cfg = s.cfg ∧
    (s.resetIn = false →
      (s.collecting = false →
        t.items = s.items ∧ t.expected = s.expected ∧ t.err = s.err ∧ t.haveUid = s.haveUid ∧
          t.lastRx = s.lastRx) ∧
      (s.exchanging = false → t.acc = s.acc) ∧
      (s.phase ≠ .start → t.deadline = s.deadline) ∧
      (s.op ≠ some .rbclr → (∀ b, s.op ≠ some (.feed b)) → s.exchanging = false → s.collecting = false →
        t.rb = s.rb) ∧
      (s.phase ≠ .start → s.phase ≠ .scan → t.rb = s.rb) ∧
      (¬(s.busy = true ∧ s.phase = .finish) →
        t.resBytes = s.resBytes ∧ t.resBool = s.resBool ∧ t.resFrames = s.resFrames ∧
          t.resNack = s.resNack ∧ t.resPretty = s.resPretty ∧
          (t.resStatus = s.resStatus ∨ (s.busy = false ∧ t.resStatus = .illegalOp ∧ t.done = true))) ∧
      ((∀ raw, s.op ≠ some (.decmode raw)) → t.resPretty = s.resPretty) ∧
      ((∀ f, s.op ≠ some (.decnack f)) →
        (∀ b, s.op ≠ some (.rdfw b) ∧ s.op ≠ some (.rdmode b) ∧ s.op ≠ some (.wrmode b)) →
        (∀ rt st b, s.op ≠ some (.buzzer rt st b)) → t.resNack = s.resNack))

/-- From a state of the invariant, in a step without a reset and a request: in SEND T.write is called exactly once and CHECK or FINISH is next; outside SEND it is not called, SEND is entered from START only, and START by an acceptance, a step from BUSY = 0, only. So between an acceptance and the return there is at most one call, and no request is ever retried. (20_memory.md R62, 42_transactor.md R174, 42_transactor.md R182, 43_commandset.md R213, 10_state.md R32) -/
def Obligations.OneWritePerRun : Prop :=
  ∀ s t : State, s.Inv → s.resetIn = false → s.request = none → step s = .next t →
    (s.phase = .send →
      t.env.writeCount = s.env.writeCount + 1 ∧ (t.phase = .check ∨ t.phase = .finish)) ∧
    (s.phase ≠ .send →
      t.env.writeCount = s.env.writeCount ∧ (t.phase = .send → s.phase = .start)) ∧
    (t.phase = .start → s.busy = false)

/-- When exec of one of these seven answers a next state, the environment, the trace, MODE_RAW, ACC, ITEMS, EXPECTED, ERR, HAVE_UID, DEADLINE, LAST_RX and the parameters are unchanged; RB is unchanged but by RBCLR and FEED, RES_NACK but by DECNACK, RES_PRETTY but by DECMODE. (41_reassembler.md R150, 40_framecodec.md R131, 40_framecodec.md R134, 40_framecodec.md R137, 45_translators.md R251, 45_translators.md R261, 60_exceptions.md R301) -/
def Obligations.PortFreeOperationsTouchNoPort : Prop :=
  ∀ (i : Instr) (s t : State), i.isPure = true → exec i s = .next t →
    t.env = s.env ∧ t.trace = s.trace ∧ t.modeRaw = s.modeRaw ∧ t.acc = s.acc ∧ t.items = s.items ∧
      t.expected = s.expected ∧ t.err = s.err ∧ t.haveUid = s.haveUid ∧ t.deadline = s.deadline ∧
      t.lastRx = s.lastRx ∧ t.cfg = s.cfg ∧
      (i ≠ .rbclr → (∀ b, i ≠ .feed b) → t.rb = s.rb) ∧
      ((∀ f, i ≠ .decnack f) → t.resNack = s.resNack) ∧
      ((∀ raw, i ≠ .decmode raw) → t.resPretty = s.resPretty)

/-- In every step the last answer of Now() does not decrease; the coming answers of T.read_byte are as before, or the step is a POLL, the oldest one is gone, and if it is a byte it is the byte SCAN will feed. (10_state.md R36, 20_memory.md R64, 20_memory.md R66) -/
def Obligations.TimeAndReceiveStreamMoveForward : Prop :=
  ∀ s t : State, step s = .next t →
    s.env.clock ≤ t.env.clock ∧
    (t.env.readQ = s.env.readQ ∨
      (s.busy = true ∧ s.phase = .poll ∧ t.env.readQ = s.env.readQ.tail ∧
        ∀ b rest, s.env.readQ = some b :: rest → t.rxByte = some b ∧ t.phase = .scan))

/-- In a step without a reset: while BUSY = 1 done is raised exactly if BUSY is cleared, and then PHASE is IDLE; while BUSY = 0 done is raised only by the rejection of a reserved op code. (That done is 0 again in every later step is log 16, the model's choice: the spec does not say how long it lasts.) (00_scope.md R8, 60_exceptions.md R270, 60_exceptions.md R279, 30_encoding.md R113, log 16) -/
def Obligations.DoneMarksEveryReturn : Prop :=
  ∀ s t : State, s.resetIn = false → step s = .next t →
    (s.busy = true → (t.done = true ↔ t.busy = false) ∧ (t.done = true → t.phase = .idle ∧ t.op = none)) ∧
    (s.busy = false → t.done = true → t.busy = false ∧ t.resStatus = .illegalOp)

/-- From every state of the invariant, a step that answers a next state leads to a state of the invariant: the parameters are as the spec demands, BUSY, PHASE and the operation in progress agree, RB is at a wait condition, ACC is a concatenation of valid frames, the frames still to be handled are valid, HAVE_UID says whether there is an item, EXPECTED is -1 to 255, MODE_RAW holds at most 254 bytes. (10_state.md R21, 10_state.md R22, 10_state.md R24, 10_state.md R25, 10_state.md R29, 10_state.md R30, 10_state.md R32, 41_reassembler.md R157) -/
def Obligations.StepKeepsTheInvariant : Prop :=
  ∀ s t : State, s.Inv → step s = .next t → t.Inv

/-- The state after reset meets the invariant of the machine and the invariant of ACC. (The nine free keys of MODE_NAME_TABLE are different and none is 0x00: the model's form of an OPEN parameter, log 10.) (10_state.md R42, 45_translators.md R252, log 10) -/
def Obligations.ResetMeetsTheInvariant : Prop :=
  State.reset.Inv ∧ State.reset.AccInv

/-- From every state that meets both invariants, a step that answers a next state keeps the invariant of ACC: no terminal frame in it while the loop runs with stop_on_terminal, the terminal frame last in it once that end is recorded, nothing in it before the request is sent and after a refused write. (42_transactor.md R174, 42_transactor.md R177, 42_transactor.md R178, 42_transactor.md R184) -/
def Obligations.StepKeepsTheAccumulatorInvariant : Prop :=
  ∀ s t : State, s.Inv → s.AccInv → step s = .next t → t.AccInv

/-- From every state that meets both invariants at FINISH of TRANSACT, its return writes a RES_BYTES that is a concatenation of valid frames; with ST_TERMINAL and stop_on_terminal its last frame is an ACK or a NACK and no earlier one is; with ST_FAIL_WRITE it is empty. (42_transactor.md R184) -/
def Obligations.TransactReturnsValidFrames : Prop :=
  ∀ (bytes : Bytes) (b : Nat) (stop : Bool) (s : State), s.Inv → s.AccInv →
    s.At (.transact bytes b stop) .finish →
    ∃ t, exec (.transact bytes b stop) s = .next t ∧ FrameSeq t.resBytes ∧
      (t.resStatus = .terminal → ∃ pre f, NonTerminalSeq pre ∧ t.resBytes = pre ++ f ∧ IsFrame f ∧
        lastFrame t.resBytes = some f ∧ (byteAt f 2 = 0x30 ∨ byteAt f 2 = 0x31)) ∧
      (t.resStatus = .failWrite → t.resBytes = [])

/-- From every state of the invariant a step answers a next state, or the port holds, or the program offers, a request the decoder rejects for its operands. (Both stops are the model's, log 3 and log 20.) (93_implementation_defined.md section 1, 60_exceptions.md R270, log 3, log 20) -/
def Obligations.NoFaultInReachableStates : Prop :=
  ∀ s : State, s.Inv →
    (∃ t, step s = .next t) ∨
      (step s = .refused .operandShape ∧ s.busy = false ∧
        ∃ r e, (s.request = some r ∨ (s.request = none ∧ s.program.head? = some r)) ∧
          decode (.host r) = .error e ∧ e ≠ .reservedOpCode)

/-- For every well-formed instruction, host operation or frame, with every operand at every value, decoding its encoding gives it back; and whatever the decoder reads as an instruction is a well-formed instruction's own encoding. (30_encoding.md R91, 30_encoding.md R95, 30_encoding.md R96, 30_encoding.md R97, 30_encoding.md R98, 30_encoding.md R100, 30_encoding.md R110, 30_encoding.md R112, 30_encoding.md R116) -/
def Obligations.DecodeAndEncodeAgree : Prop :=
  (∀ i : Instr, i.wf = true → decode (encode i) = .ok i) ∧
  (∀ (c : Code) (i : Instr), decode c = .ok i → i.wf = true ∧ encode i = c)

/-- For every well-formed instruction the table word of its encoding, its op code or the 40-bit header word of its frame, matches its row: word AND mask = match AND mask. (30_encoding.md R112, 30_encoding.md R116) -/
def Obligations.EncodingsMatchTheOpcodeTable : Prop :=
  ∀ i : Instr, i.wf = true →
    (encode i).tableWord &&& i.tableRow.2 = i.tableRow.1 &&& i.tableRow.2

/-- A step without a reset commutes with moving the clock, DEADLINE and LAST_RX by the same amount. (10_state.md R36) -/
def Obligations.NoRuleSeesAbsoluteTime : Prop :=
  ∀ (s : State) (c : Nat), s.resetIn = false →
    step (s.shiftTime c) = mapNext (State.shiftTime c) (step s)

/-- Two states that differ only in the trace and in the log of port calls step to outcomes that differ only there. (60_exceptions.md R300, 60_exceptions.md R302) -/
def Obligations.TheTraceIsNeverReadBack : Prop :=
  ∀ s : State, mapNext State.eraseGhosts (step s.eraseGhosts) = mapNext State.eraseGhosts (step s)

/-- After reset the registers have the values of R42; CFG_ADDR, CFG_POLL_MS, CFG_BACKOFF_MS, CFG_SILENCE_MS, BUZZER_SET_MEANS_ON and VALIDATE_CHECKS_STX have their defaults; STATUS shows BUSY, HAVE_UID, EXPECTED >= 0 and bits 7:6 as zero; the host can read the registers, MODE_PRETTY is all EMPTY. (10_state.md R42, 70_reset_and_hazards.md R311, 10_state.md R34, 10_state.md R35, 00_scope.md R6) -/
def Obligations.ResetLeavesTheSpecsValues : Prop :=
  let s := State.reset
  s.rb = [] ∧ s.acc = [] ∧ s.items = [] ∧ s.expected = -1 ∧ s.err = .clear ∧ s.haveUid = false ∧
    s.busy = false ∧ s.modeRaw = [] ∧ s.deadline = 0 ∧ s.lastRx = 0 ∧ s.phase = .idle ∧
    s.resStatus = .ok ∧ s.resBool = false ∧ s.resBytes = [] ∧ s.resFrames = [] ∧
    s.resNack = ⟨.invalid, none⟩ ∧ s.resPretty = ⟨.empty, .empty, .empty, .empty, .empty, .empty⟩ ∧
    s.cfg.addr = 0x00 ∧ s.cfg.pollMs = 10 ∧ s.cfg.backoffMs = 1 ∧ s.cfg.silenceMs = 120 ∧
    s.cfg.buzzerSetMeansOn = true ∧ s.cfg.checksStx = false ∧
    s.statusView &&& 0xC7 = 0x00 ∧ s.hostView.map HostView.modePretty = some Pretty.empty

/-- With the reset input raised, whatever is in progress, the step leaves every register at its reset value, BUSY and done at 0; the parameters, the environment, the trace and the host's requests are as before. (That the step obeys the input before anything else, takes it back and keeps the host's requests is log 15, that the parameters stay is log 11, that done and the other fields that are no register are empty is log 24: the model's.) (70_reset_and_hazards.md R313, 70_reset_and_hazards.md R311, 10_state.md R42, log 11, log 15, log 24) -/
def Obligations.ResetInputAbandonsTheOperation : Prop :=
  ∀ s : State, s.resetIn = true →
    step s = .next
      { State.reset with
        cfg := s.cfg, env := s.env, trace := s.trace, request := s.request, program := s.program } ∧
    State.reset.done = false ∧ State.reset.busy = false

/-- From every state of the invariant with an operation in progress, no reset and no request: if each scripted answer of Now() lies at least 1 ms above the last, and enough of them are scripted for the remaining budget, whatever T.write and T.read_byte answer, the machine reaches a state with BUSY = 0 and done raised. (70_reset_and_hazards.md R330, 41_reassembler.md R159) -/
def Obligations.EveryOperationEnds : Prop :=
  ∀ (s : State) (i : Instr), s.Inv → s.op = some i → s.resetIn = false → s.request = none →
    (∀ d ∈ s.env.nowQ, 1 ≤ d) →
    (s.deadline - s.env.clock) + i.budget + s.out.length + 64 ≤ s.env.nowQ.length →
    ∃ n t, Host.Core.run Sys2Proof.core n s = .next t ∧ t.busy = false ∧ t.done = true

/-- TRANSACT with stop_on_terminal, RDFW, RDMODE, WRMODE with at least four bytes in MODE_RAW, and BUZZER, at START with a budget of at least 1 ms: if the request is accepted, the next answers of T.read_byte are the bytes of a valid terminal frame, nothing before them and no empty poll between them, and no time passes meanwhile, the run reaches FINISH with exactly that frame in ACC, RB empty, the later answers unread; by the statements on FINISH it then returns. (42_transactor.md R170, 42_transactor.md R177, 42_transactor.md R178, 43_commandset.md R191, 70_reset_and_hazards.md R320) -/
def Obligations.ExchangeRunsToItsAnswer : Prop :=
  ∀ (s : State) (i : Instr) (f : Bytes) (later : List (Option Byte)) (k : Nat),
    i.isExchange = true → s.stopsOnTerminal = true → s.At i .start → ((∃ b, i = .wrmode b) → 4 ≤ s.modeRaw.length) →
    1 ≤ i.budget → s.rxByte = none → s.out = [] → s.cause = none → s.resetIn = false → s.request = none →
    IsFrame f → isTerminal f = true →
    s.env.writeQ.head? = some true → s.env.readQ = f.map some ++ later →
    s.env.nowQ = List.replicate k 0 → f.length + 1 ≤ k →
    ∃ n t, Host.Core.run Sys2Proof.core n s = .next t ∧ t.At i .finish ∧ t.acc = f ∧ t.rb = [] ∧
      t.cause = some .terminal ∧ t.env.readQ = later ∧ t.modeRaw = s.modeRaw

/-- INVENTORY at START with a budget of at least 1 ms: if the request is accepted, the next answers of T.read_byte are the bytes of an inventory ACK announcing n tags, n at least 1, and of n tag records, and no time passes meanwhile, the run returns ST_OK with those n items in order and EXPECTED = n, the later answers unread. (44_inventory.md R220, 44_inventory.md R223, 44_inventory.md R224, 44_inventory.md R228, 44_inventory.md R237) -/
def Obligations.InventoryEndsAtTheAnnouncedCount : Prop :=
  ∀ (s : State) (b k : Nat) (later : List (Option Byte)) (a : Byte) (tags : List (Byte × Bytes)),
    s.At (.inventory b) .start → 1 ≤ b → s.rxByte = none → s.out = [] → s.cause = none →
    s.resetIn = false → s.request = none →
    1 ≤ tags.length → tags.length ≤ 255 →
    (∀ g ∈ tags, 9 ≤ g.2.length ∧ g.2.length ≤ 255) →
    let bytes := buildFrame a 0x30 [0xF0, BitVec.ofNat 8 tags.length] ++
      (tags.map fun g => buildFrame g.1 0x49 g.2).flatten
    s.env.writeQ.head? = some true → s.env.readQ = bytes.map some ++ later →
    s.env.nowQ = List.replicate k 0 → 3 * bytes.length + 1 ≤ k →
    ∃ n t, Host.Core.run Sys2Proof.core n s = .next t ∧ t.busy = false ∧ t.done = true ∧
      t.resStatus = .ok ∧ t.err = .clear ∧ t.expected = (tags.length : Int) ∧
      t.items = (tags.map fun g =>
        ⟨#v[byteAt g.2 8, byteAt g.2 7, byteAt g.2 6, byteAt g.2 5,
            byteAt g.2 4, byteAt g.2 3, byteAt g.2 2, byteAt g.2 1], byteAt g.2 0⟩) ∧
      t.env.readQ = later

/-- TRANSACT and INVENTORY at START with budget 0 return without a poll, whatever the time source answers: DEADLINE is the first time sample, the request is written once, no byte is read; TRANSACT returns an empty RES_BYTES with ST_TIMEOUT, or ST_FAIL_WRITE if the write is refused; INVENTORY returns no items with ER_NO_TAGS, or ER_WRITE_FAILED. (42_transactor.md R181, 44_inventory.md R236) -/
def Obligations.ZeroBudgetPollsNothing : Prop :=
  (∀ (s : State) (bytes : Bytes) (stop : Bool), s.At (.transact bytes 0 stop) .start →
    s.cause = none → s.resetIn = false → s.request = none →
    ∃ n t, Host.Core.run Sys2Proof.core n s = .next t ∧ t.busy = false ∧ t.done = true ∧
      t.deadline = s.env.afterNow.clock ∧ t.resBytes = [] ∧
      t.resStatus = (if s.env.afterNow.writeAnswer then .timeout else .failWrite) ∧
      t.env.calls = s.env.calls ++ [.now, .write bytes s.env.afterNow.writeAnswer] ++
        (if s.env.afterNow.writeAnswer then [.now] else []) ∧
      t.env.readQ = s.env.readQ) ∧
  (∀ s : State, s.At (.inventory 0) .start → s.cause = none → s.resetIn = false → s.request = none →
    ∃ n t, Host.Core.run Sys2Proof.core n s = .next t ∧ t.busy = false ∧ t.done = true ∧
      t.deadline = s.env.afterNow.clock ∧ t.items = [] ∧
      t.err = (if s.env.afterNow.writeAnswer then .noTags else .writeFailed) ∧
      t.env.calls = s.env.calls ++
        [.now, .write (buildFrame s.cfg.addr 0x78 (0xF0 :: s.cfg.invReqExtra)) s.env.afterNow.writeAnswer] ++
        (if s.env.afterNow.writeAnswer then [.now] else []) ∧
      t.env.readQ = s.env.readQ)

/-- Requests and frames written out byte by byte from the encodings of the spec, one of each family at least, decode to the instructions they stand for. (30_encoding.md R95, 30_encoding.md R96, 30_encoding.md R97, 30_encoding.md R98, 30_encoding.md R100, 30_encoding.md R101, 30_encoding.md R102, 30_encoding.md R105, 30_encoding.md R112) -/
def Obligations.WrittenOutEncodingsDecode : Prop :=
  decode (.host ⟨0x1, [.byte 0x00, .byte 0x4F, .bytes [0x90]]⟩) = .ok (.build 0x00 0x4F [0x90]) ∧
  decode (.host ⟨0x5, [.byte 0x02]⟩) = .ok (.feed 0x02) ∧
  decode (.host ⟨0x6, [.bytes [], .nat 0, .flag false]⟩) = .ok (.transact [] 0 false) ∧
  decode (.host ⟨0xA, [.byte 0x01, .byte 0x00, .nat 300]⟩) = .ok (.buzzer 0x01 0x00 300) ∧
  decode (.host ⟨0xB, [.nat 1000]⟩) = .ok (.inventory 1000) ∧
  decode (.host ⟨0xC, [.bytes [0x50, 0x00, 0x2C, 0x40]]⟩) = .ok (.decmode [0x50, 0x00, 0x2C, 0x40]) ∧
  decode (.tx [0x02, 0x00, 0x4F, 0x01, 0x90, 0x03, 0xE5, 0x0D]) = .ok (.reqRomver 0x00) ∧
  decode (.tx [0x02, 0x00, 0x4F, 0x01, 0x00, 0x03, 0x55, 0x0D]) = .ok (.reqRdmode 0x00) ∧
  decode (.tx [0x02, 0x00, 0x4E, 0x07, 0x00, 0x00, 0x00, 0x1C, 0x00, 0x00, 0x00, 0x03, 0x76, 0x0D]) =
    .ok (.reqWrmode 0x00 0x00 0x1C) ∧
  decode (.tx [0x02, 0x03, 0x78, 0x03, 0xF0, 0x01, 0x02, 0x03, 0x76, 0x0D]) =
    .ok (.reqInventory 0x03 [0x01, 0x02]) ∧
  decode (.tx [0x02, 0x00, 0x42, 0x02, 0x01, 0x00, 0x03, 0x4A, 0x0D]) = .ok (.reqBuzzer 0x00 0x01 0x00) ∧
  decode (.rx [0x02, 0x00, 0x30, 0x00, 0x03, 0x35, 0x0D]) = .ok (.rspAck 0x00 []) ∧
  decode (.rx [0x02, 0x00, 0x31, 0x01, 0x44, 0x03, 0x7B, 0x0D]) = .ok (.rspNack 0x00 [0x44]) ∧
  decode (.rx [0x02, 0x00, 0x55, 0x01, 0x01, 0x03, 0x5C, 0x0D]) = .ok (.rspOther 0x00 0x55 [0x01])

/-- In SEND, RDFW writes the frame with CFG_ADDR, command 0x4F and payload 0x90; RDMODE the one with payload 0x00; WRMODE command 0x4E with CFG_TARGET_RAM, 0x00, 0x00, byte 2 of MODE_RAW and three bytes 0x00; BUZZER command 0x42 with the response type and the sound type, in this order; INVENTORY command 0x78 with 0xF0 and INV_REQ_EXTRA. The frame is traced, then handed to T.write in one call; the answer true leads to CHECK; the answer false is commented, recorded, sets ERR in INVENTORY only, and leads to FINISH. Nothing else changes. (That SEND is a step of its own is log 1.) (43_commandset.md R193, 43_commandset.md R199, 43_commandset.md R204, 43_commandset.md R205, 43_commandset.md R210, 43_commandset.md R211, 44_inventory.md R220, 44_inventory.md R222, 42_transactor.md R173, 42_transactor.md R174, 10_state.md R34, log 1) -/
def Obligations.EachOperationSendsItsRequest : Prop :=
  ∀ (s : State) (b : Nat),
    let sent := fun (ins : Bool) (f : Bytes) =>
      if s.env.writeAnswer then
        { s with trace := s.trace ++ [.send f], env := s.env.afterWrite f, phase := .check }
      else
        { s with
          trace := s.trace ++ [.send f, .cmt .writeFailed], env := s.env.afterWrite f
          err := if ins then InvError.writeFailed else s.err
          cause := some EndCause.writeFailed, phase := .finish }
    (s.At (.rdfw b) .send →
      exec (.rdfw b) s = .next (sent false (buildFrame s.cfg.addr 0x4F [0x90]))) ∧
    (s.At (.rdmode b) .send →
      exec (.rdmode b) s = .next (sent false (buildFrame s.cfg.addr 0x4F [0x00]))) ∧
    (s.At (.wrmode b) .send →
      exec (.wrmode b) s = .next (sent false (buildFrame s.cfg.addr 0x4E
        [s.cfg.targetRam, 0x00, 0x00, byteAt s.modeRaw 2, 0x00, 0x00, 0x00]))) ∧
    (∀ rt st, s.At (.buzzer rt st b) .send →
      exec (.buzzer rt st b) s = .next (sent false (buildFrame s.cfg.addr 0x42 [rt, st]))) ∧
    (s.At (.inventory b) .send →
      exec (.inventory b) s = .next (sent true (buildFrame s.cfg.addr 0x78 (0xF0 :: s.cfg.invReqExtra))))
end

