-- ==== Sys2Proof/Laws/State.lean ====
section
/-! SUPPORT. The fields of the state after each named update: one lemma per field per update, so that no proof unfolds a record update. -/

namespace Sys2Proof.Machine

variable (s : State)

/-! ### `State.note` -/

@[simp] theorem note_rb (ev : Event) : (s.note ev).rb = s.rb := rfl
@[simp] theorem note_acc (ev : Event) : (s.note ev).acc = s.acc := rfl
@[simp] theorem note_items (ev : Event) : (s.note ev).items = s.items := rfl
@[simp] theorem note_expected (ev : Event) : (s.note ev).expected = s.expected := rfl
@[simp] theorem note_err (ev : Event) : (s.note ev).err = s.err := rfl
@[simp] theorem note_haveUid (ev : Event) : (s.note ev).haveUid = s.haveUid := rfl
@[simp] theorem note_busy (ev : Event) : (s.note ev).busy = s.busy := rfl
@[simp] theorem note_modeRaw (ev : Event) : (s.note ev).modeRaw = s.modeRaw := rfl
@[simp] theorem note_deadline (ev : Event) : (s.note ev).deadline = s.deadline := rfl
@[simp] theorem note_lastRx (ev : Event) : (s.note ev).lastRx = s.lastRx := rfl
@[simp] theorem note_phase (ev : Event) : (s.note ev).phase = s.phase := rfl
@[simp] theorem note_resStatus (ev : Event) : (s.note ev).resStatus = s.resStatus := rfl
@[simp] theorem note_resBytes (ev : Event) : (s.note ev).resBytes = s.resBytes := rfl
@[simp] theorem note_resBool (ev : Event) : (s.note ev).resBool = s.resBool := rfl
@[simp] theorem note_resFrames (ev : Event) : (s.note ev).resFrames = s.resFrames := rfl
@[simp] theorem note_resNack (ev : Event) : (s.note ev).resNack = s.resNack := rfl
@[simp] theorem note_resPretty (ev : Event) : (s.note ev).resPretty = s.resPretty := rfl
@[simp] theorem note_cfg (ev : Event) : (s.note ev).cfg = s.cfg := rfl
@[simp] theorem note_op (ev : Event) : (s.note ev).op = s.op := rfl
@[simp] theorem note_rxByte (ev : Event) : (s.note ev).rxByte = s.rxByte := rfl
@[simp] theorem note_out (ev : Event) : (s.note ev).out = s.out := rfl
@[simp] theorem note_cause (ev : Event) : (s.note ev).cause = s.cause := rfl
@[simp] theorem note_done (ev : Event) : (s.note ev).done = s.done := rfl
@[simp] theorem note_portAnswer (ev : Event) : (s.note ev).portAnswer = s.portAnswer := rfl
@[simp] theorem note_request (ev : Event) : (s.note ev).request = s.request := rfl
@[simp] theorem note_program (ev : Event) : (s.note ev).program = s.program := rfl
@[simp] theorem note_resetIn (ev : Event) : (s.note ev).resetIn = s.resetIn := rfl
@[simp] theorem note_env (ev : Event) : (s.note ev).env = s.env := rfl
@[simp] theorem note_trace (ev : Event) : (s.note ev).trace = s.trace ++ [ev] := rfl
@[simp] theorem note_exchanging (ev : Event) : (s.note ev).exchanging = s.exchanging := rfl
@[simp] theorem note_collecting (ev : Event) : (s.note ev).collecting = s.collecting := rfl
@[simp] theorem note_stopsOnTerminal (ev : Event) : (s.note ev).stopsOnTerminal = s.stopsOnTerminal := rfl
@[simp] theorem note_requestBytes (ev : Event) : (s.note ev).requestBytes = s.requestBytes := rfl

/-! ### `State.sampled` -/

@[simp] theorem sampled_rb : (s.sampled).rb = s.rb := rfl
@[simp] theorem sampled_acc : (s.sampled).acc = s.acc := rfl
@[simp] theorem sampled_items : (s.sampled).items = s.items := rfl
@[simp] theorem sampled_expected : (s.sampled).expected = s.expected := rfl
@[simp] theorem sampled_err : (s.sampled).err = s.err := rfl
@[simp] theorem sampled_haveUid : (s.sampled).haveUid = s.haveUid := rfl
@[simp] theorem sampled_busy : (s.sampled).busy = s.busy := rfl
@[simp] theorem sampled_modeRaw : (s.sampled).modeRaw = s.modeRaw := rfl
@[simp] theorem sampled_deadline : (s.sampled).deadline = s.deadline := rfl
@[simp] theorem sampled_lastRx : (s.sampled).lastRx = s.lastRx := rfl
@[simp] theorem sampled_phase : (s.sampled).phase = s.phase := rfl
@[simp] theorem sampled_resStatus : (s.sampled).resStatus = s.resStatus := rfl
@[simp] theorem sampled_resBytes : (s.sampled).resBytes = s.resBytes := rfl
@[simp] theorem sampled_resBool : (s.sampled).resBool = s.resBool := rfl
@[simp] theorem sampled_resFrames : (s.sampled).resFrames = s.resFrames := rfl
@[simp] theorem sampled_resNack : (s.sampled).resNack = s.resNack := rfl
@[simp] theorem sampled_resPretty : (s.sampled).resPretty = s.resPretty := rfl
@[simp] theorem sampled_cfg : (s.sampled).cfg = s.cfg := rfl
@[simp] theorem sampled_op : (s.sampled).op = s.op := rfl
@[simp] theorem sampled_rxByte : (s.sampled).rxByte = s.rxByte := rfl
@[simp] theorem sampled_out : (s.sampled).out = s.out := rfl
@[simp] theorem sampled_cause : (s.sampled).cause = s.cause := rfl
@[simp] theorem sampled_done : (s.sampled).done = s.done := rfl
@[simp] theorem sampled_portAnswer : (s.sampled).portAnswer = s.portAnswer := rfl
@[simp] theorem sampled_request : (s.sampled).request = s.request := rfl
@[simp] theorem sampled_program : (s.sampled).program = s.program := rfl
@[simp] theorem sampled_resetIn : (s.sampled).resetIn = s.resetIn := rfl
@[simp] theorem sampled_env : (s.sampled).env = s.env.afterNow := rfl
@[simp] theorem sampled_trace : (s.sampled).trace = s.trace := rfl
@[simp] theorem sampled_exchanging : (s.sampled).exchanging = s.exchanging := rfl
@[simp] theorem sampled_collecting : (s.sampled).collecting = s.collecting := rfl
@[simp] theorem sampled_stopsOnTerminal : (s.sampled).stopsOnTerminal = s.stopsOnTerminal := rfl
@[simp] theorem sampled_requestBytes : (s.sampled).requestBytes = s.requestBytes := rfl

/-! ### `State.written` -/

@[simp] theorem written_rb (bytes : Bytes) : (s.written bytes).rb = s.rb := rfl
@[simp] theorem written_acc (bytes : Bytes) : (s.written bytes).acc = s.acc := rfl
@[simp] theorem written_items (bytes : Bytes) : (s.written bytes).items = s.items := rfl
@[simp] theorem written_expected (bytes : Bytes) : (s.written bytes).expected = s.expected := rfl
@[simp] theorem written_err (bytes : Bytes) : (s.written bytes).err = s.err := rfl
@[simp] theorem written_haveUid (bytes : Bytes) : (s.written bytes).haveUid = s.haveUid := rfl
@[simp] theorem written_busy (bytes : Bytes) : (s.written bytes).busy = s.busy := rfl
@[simp] theorem written_modeRaw (bytes : Bytes) : (s.written bytes).modeRaw = s.modeRaw := rfl
@[simp] theorem written_deadline (bytes : Bytes) : (s.written bytes).deadline = s.deadline := rfl
@[simp] theorem written_lastRx (bytes : Bytes) : (s.written bytes).lastRx = s.lastRx := rfl
@[simp] theorem written_phase (bytes : Bytes) : (s.written bytes).phase = s.phase := rfl
@[simp] theorem written_resStatus (bytes : Bytes) : (s.written bytes).resStatus = s.resStatus := rfl
@[simp] theorem written_resBytes (bytes : Bytes) : (s.written bytes).resBytes = s.resBytes := rfl
@[simp] theorem written_resBool (bytes : Bytes) : (s.written bytes).resBool = s.resBool := rfl
@[simp] theorem written_resFrames (bytes : Bytes) : (s.written bytes).resFrames = s.resFrames := rfl
@[simp] theorem written_resNack (bytes : Bytes) : (s.written bytes).resNack = s.resNack := rfl
@[simp] theorem written_resPretty (bytes : Bytes) : (s.written bytes).resPretty = s.resPretty := rfl
@[simp] theorem written_cfg (bytes : Bytes) : (s.written bytes).cfg = s.cfg := rfl
@[simp] theorem written_op (bytes : Bytes) : (s.written bytes).op = s.op := rfl
@[simp] theorem written_rxByte (bytes : Bytes) : (s.written bytes).rxByte = s.rxByte := rfl
@[simp] theorem written_out (bytes : Bytes) : (s.written bytes).out = s.out := rfl
@[simp] theorem written_cause (bytes : Bytes) : (s.written bytes).cause = s.cause := rfl
@[simp] theorem written_done (bytes : Bytes) : (s.written bytes).done = s.done := rfl
@[simp] theorem written_portAnswer (bytes : Bytes) : (s.written bytes).portAnswer = s.portAnswer := rfl
@[simp] theorem written_request (bytes : Bytes) : (s.written bytes).request = s.request := rfl
@[simp] theorem written_program (bytes : Bytes) : (s.written bytes).program = s.program := rfl
@[simp] theorem written_resetIn (bytes : Bytes) : (s.written bytes).resetIn = s.resetIn := rfl
@[simp] theorem written_env (bytes : Bytes) : (s.written bytes).env = s.env.afterWrite bytes := rfl
@[simp] theorem written_trace (bytes : Bytes) : (s.written bytes).trace = s.trace := rfl
@[simp] theorem written_exchanging (bytes : Bytes) : (s.written bytes).exchanging = s.exchanging := rfl
@[simp] theorem written_collecting (bytes : Bytes) : (s.written bytes).collecting = s.collecting := rfl
@[simp] theorem written_stopsOnTerminal (bytes : Bytes) : (s.written bytes).stopsOnTerminal = s.stopsOnTerminal := rfl
@[simp] theorem written_requestBytes (bytes : Bytes) : (s.written bytes).requestBytes = s.requestBytes := rfl

/-! ### `State.polled` -/

@[simp] theorem polled_rb : (s.polled).rb = s.rb := rfl
@[simp] theorem polled_acc : (s.polled).acc = s.acc := rfl
@[simp] theorem polled_items : (s.polled).items = s.items := rfl
@[simp] theorem polled_expected : (s.polled).expected = s.expected := rfl
@[simp] theorem polled_err : (s.polled).err = s.err := rfl
@[simp] theorem polled_haveUid : (s.polled).haveUid = s.haveUid := rfl
@[simp] theorem polled_busy : (s.polled).busy = s.busy := rfl
@[simp] theorem polled_modeRaw : (s.polled).modeRaw = s.modeRaw := rfl
@[simp] theorem polled_deadline : (s.polled).deadline = s.deadline := rfl
@[simp] theorem polled_lastRx : (s.polled).lastRx = s.lastRx := rfl
@[simp] theorem polled_phase : (s.polled).phase = s.phase := rfl
@[simp] theorem polled_resStatus : (s.polled).resStatus = s.resStatus := rfl
@[simp] theorem polled_resBytes : (s.polled).resBytes = s.resBytes := rfl
@[simp] theorem polled_resBool : (s.polled).resBool = s.resBool := rfl
@[simp] theorem polled_resFrames : (s.polled).resFrames = s.resFrames := rfl
@[simp] theorem polled_resNack : (s.polled).resNack = s.resNack := rfl
@[simp] theorem polled_resPretty : (s.polled).resPretty = s.resPretty := rfl
@[simp] theorem polled_cfg : (s.polled).cfg = s.cfg := rfl
@[simp] theorem polled_op : (s.polled).op = s.op := rfl
@[simp] theorem polled_rxByte : (s.polled).rxByte = s.rxByte := rfl
@[simp] theorem polled_out : (s.polled).out = s.out := rfl
@[simp] theorem polled_cause : (s.polled).cause = s.cause := rfl
@[simp] theorem polled_done : (s.polled).done = s.done := rfl
@[simp] theorem polled_portAnswer : (s.polled).portAnswer = s.portAnswer := rfl
@[simp] theorem polled_request : (s.polled).request = s.request := rfl
@[simp] theorem polled_program : (s.polled).program = s.program := rfl
@[simp] theorem polled_resetIn : (s.polled).resetIn = s.resetIn := rfl
@[simp] theorem polled_env : (s.polled).env = s.env.afterRead s.cfg.pollMs := rfl
@[simp] theorem polled_trace : (s.polled).trace = s.trace := rfl
@[simp] theorem polled_exchanging : (s.polled).exchanging = s.exchanging := rfl
@[simp] theorem polled_collecting : (s.polled).collecting = s.collecting := rfl
@[simp] theorem polled_stopsOnTerminal : (s.polled).stopsOnTerminal = s.stopsOnTerminal := rfl
@[simp] theorem polled_requestBytes : (s.polled).requestBytes = s.requestBytes := rfl

/-! ### `State.slept` -/

@[simp] theorem slept_rb : (s.slept).rb = s.rb := rfl
@[simp] theorem slept_acc : (s.slept).acc = s.acc := rfl
@[simp] theorem slept_items : (s.slept).items = s.items := rfl
@[simp] theorem slept_expected : (s.slept).expected = s.expected := rfl
@[simp] theorem slept_err : (s.slept).err = s.err := rfl
@[simp] theorem slept_haveUid : (s.slept).haveUid = s.haveUid := rfl
@[simp] theorem slept_busy : (s.slept).busy = s.busy := rfl
@[simp] theorem slept_modeRaw : (s.slept).modeRaw = s.modeRaw := rfl
@[simp] theorem slept_deadline : (s.slept).deadline = s.deadline := rfl
@[simp] theorem slept_lastRx : (s.slept).lastRx = s.lastRx := rfl
@[simp] theorem slept_phase : (s.slept).phase = s.phase := rfl
@[simp] theorem slept_resStatus : (s.slept).resStatus = s.resStatus := rfl
@[simp] theorem slept_resBytes : (s.slept).resBytes = s.resBytes := rfl
@[simp] theorem slept_resBool : (s.slept).resBool = s.resBool := rfl
@[simp] theorem slept_resFrames : (s.slept).resFrames = s.resFrames := rfl
@[simp] theorem slept_resNack : (s.slept).resNack = s.resNack := rfl
@[simp] theorem slept_resPretty : (s.slept).resPretty = s.resPretty := rfl
@[simp] theorem slept_cfg : (s.slept).cfg = s.cfg := rfl
@[simp] theorem slept_op : (s.slept).op = s.op := rfl
@[simp] theorem slept_rxByte : (s.slept).rxByte = s.rxByte := rfl
@[simp] theorem slept_out : (s.slept).out = s.out := rfl
@[simp] theorem slept_cause : (s.slept).cause = s.cause := rfl
@[simp] theorem slept_done : (s.slept).done = s.done := rfl
@[simp] theorem slept_portAnswer : (s.slept).portAnswer = s.portAnswer := rfl
@[simp] theorem slept_request : (s.slept).request = s.request := rfl
@[simp] theorem slept_program : (s.slept).program = s.program := rfl
@[simp] theorem slept_resetIn : (s.slept).resetIn = s.resetIn := rfl
@[simp] theorem slept_env : (s.slept).env = s.env.afterSleep s.cfg.backoffMs := rfl
@[simp] theorem slept_trace : (s.slept).trace = s.trace := rfl
@[simp] theorem slept_exchanging : (s.slept).exchanging = s.exchanging := rfl
@[simp] theorem slept_collecting : (s.slept).collecting = s.collecting := rfl
@[simp] theorem slept_stopsOnTerminal : (s.slept).stopsOnTerminal = s.stopsOnTerminal := rfl
@[simp] theorem slept_requestBytes : (s.slept).requestBytes = s.requestBytes := rfl

/-! ### `State.accept` -/

@[simp] theorem accept_rb (i : Instr) : (s.accept i).rb = s.rb := rfl
@[simp] theorem accept_acc (i : Instr) : (s.accept i).acc = s.acc := rfl
@[simp] theorem accept_items (i : Instr) : (s.accept i).items = s.items := rfl
@[simp] theorem accept_expected (i : Instr) : (s.accept i).expected = s.expected := rfl
@[simp] theorem accept_err (i : Instr) : (s.accept i).err = s.err := rfl
@[simp] theorem accept_haveUid (i : Instr) : (s.accept i).haveUid = s.haveUid := rfl
@[simp] theorem accept_busy (i : Instr) : (s.accept i).busy = true := rfl
@[simp] theorem accept_modeRaw (i : Instr) : (s.accept i).modeRaw = s.modeRaw := rfl
@[simp] theorem accept_deadline (i : Instr) : (s.accept i).deadline = s.deadline := rfl
@[simp] theorem accept_lastRx (i : Instr) : (s.accept i).lastRx = s.lastRx := rfl
@[simp] theorem accept_phase (i : Instr) : (s.accept i).phase = .start := rfl
@[simp] theorem accept_resStatus (i : Instr) : (s.accept i).resStatus = s.resStatus := rfl
@[simp] theorem accept_resBytes (i : Instr) : (s.accept i).resBytes = s.resBytes := rfl
@[simp] theorem accept_resBool (i : Instr) : (s.accept i).resBool = s.resBool := rfl
@[simp] theorem accept_resFrames (i : Instr) : (s.accept i).resFrames = s.resFrames := rfl
@[simp] theorem accept_resNack (i : Instr) : (s.accept i).resNack = s.resNack := rfl
@[simp] theorem accept_resPretty (i : Instr) : (s.accept i).resPretty = s.resPretty := rfl
@[simp] theorem accept_cfg (i : Instr) : (s.accept i).cfg = s.cfg := rfl
@[simp] theorem accept_op (i : Instr) : (s.accept i).op = some i := rfl
@[simp] theorem accept_rxByte (i : Instr) : (s.accept i).rxByte = none := rfl
@[simp] theorem accept_out (i : Instr) : (s.accept i).out = [] := rfl
@[simp] theorem accept_cause (i : Instr) : (s.accept i).cause = none := rfl
@[simp] theorem accept_done (i : Instr) : (s.accept i).done = s.done := rfl
@[simp] theorem accept_portAnswer (i : Instr) : (s.accept i).portAnswer = s.portAnswer := rfl
@[simp] theorem accept_request (i : Instr) : (s.accept i).request = s.request := rfl
@[simp] theorem accept_program (i : Instr) : (s.accept i).program = s.program := rfl
@[simp] theorem accept_resetIn (i : Instr) : (s.accept i).resetIn = s.resetIn := rfl
@[simp] theorem accept_env (i : Instr) : (s.accept i).env = s.env := rfl
@[simp] theorem accept_trace (i : Instr) : (s.accept i).trace = s.trace := rfl

/-! ### `State.finish` -/

@[simp] theorem finish_rb (st : Status) (b : Bytes) (v : Bool) (fs : List Bytes) : (s.finish st b v fs).rb = s.rb := rfl
@[simp] theorem finish_acc (st : Status) (b : Bytes) (v : Bool) (fs : List Bytes) : (s.finish st b v fs).acc = s.acc := rfl
@[simp] theorem finish_items (st : Status) (b : Bytes) (v : Bool) (fs : List Bytes) : (s.finish st b v fs).items = s.items := rfl
@[simp] theorem finish_expected (st : Status) (b : Bytes) (v : Bool) (fs : List Bytes) : (s.finish st b v fs).expected = s.expected := rfl
@[simp] theorem finish_err (st : Status) (b : Bytes) (v : Bool) (fs : List Bytes) : (s.finish st b v fs).err = s.err := rfl
@[simp] theorem finish_haveUid (st : Status) (b : Bytes) (v : Bool) (fs : List Bytes) : (s.finish st b v fs).haveUid = s.haveUid := rfl
@[simp] theorem finish_busy (st : Status) (b : Bytes) (v : Bool) (fs : List Bytes) : (s.finish st b v fs).busy = false := rfl
@[simp] theorem finish_modeRaw (st : Status) (b : Bytes) (v : Bool) (fs : List Bytes) : (s.finish st b v fs).modeRaw = s.modeRaw := rfl
@[simp] theorem finish_deadline (st : Status) (b : Bytes) (v : Bool) (fs : List Bytes) : (s.finish st b v fs).deadline = s.deadline := rfl
@[simp] theorem finish_lastRx (st : Status) (b : Bytes) (v : Bool) (fs : List Bytes) : (s.finish st b v fs).lastRx = s.lastRx := rfl
@[simp] theorem finish_phase (st : Status) (b : Bytes) (v : Bool) (fs : List Bytes) : (s.finish st b v fs).phase = .idle := rfl
@[simp] theorem finish_resStatus (st : Status) (b : Bytes) (v : Bool) (fs : List Bytes) : (s.finish st b v fs).resStatus = st := rfl
@[simp] theorem finish_resBytes (st : Status) (b : Bytes) (v : Bool) (fs : List Bytes) : (s.finish st b v fs).resBytes = b := rfl
@[simp] theorem finish_resBool (st : Status) (b : Bytes) (v : Bool) (fs : List Bytes) : (s.finish st b v fs).resBool = v := rfl
@[simp] theorem finish_resFrames (st : Status) (b : Bytes) (v : Bool) (fs : List Bytes) : (s.finish st b v fs).resFrames = fs := rfl
@[simp] theorem finish_resNack (st : Status) (b : Bytes) (v : Bool) (fs : List Bytes) : (s.finish st b v fs).resNack = s.resNack := rfl
@[simp] theorem finish_resPretty (st : Status) (b : Bytes) (v : Bool) (fs : List Bytes) : (s.finish st b v fs).resPretty = s.resPretty := rfl
@[simp] theorem finish_cfg (st : Status) (b : Bytes) (v : Bool) (fs : List Bytes) : (s.finish st b v fs).cfg = s.cfg := rfl
@[simp] theorem finish_op (st : Status) (b : Bytes) (v : Bool) (fs : List Bytes) : (s.finish st b v fs).op = none := rfl
@[simp] theorem finish_rxByte (st : Status) (b : Bytes) (v : Bool) (fs : List Bytes) : (s.finish st b v fs).rxByte = none := rfl
@[simp] theorem finish_out (st : Status) (b : Bytes) (v : Bool) (fs : List Bytes) : (s.finish st b v fs).out = [] := rfl
@[simp] theorem finish_cause (st : Status) (b : Bytes) (v : Bool) (fs : List Bytes) : (s.finish st b v fs).cause = none := rfl
@[simp] theorem finish_done (st : Status) (b : Bytes) (v : Bool) (fs : List Bytes) : (s.finish st b v fs).done = true := rfl
@[simp] theorem finish_portAnswer (st : Status) (b : Bytes) (v : Bool) (fs : List Bytes) : (s.finish st b v fs).portAnswer = s.portAnswer := rfl
@[simp] theorem finish_request (st : Status) (b : Bytes) (v : Bool) (fs : List Bytes) : (s.finish st b v fs).request = s.request := rfl
@[simp] theorem finish_program (st : Status) (b : Bytes) (v : Bool) (fs : List Bytes) : (s.finish st b v fs).program = s.program := rfl
@[simp] theorem finish_resetIn (st : Status) (b : Bytes) (v : Bool) (fs : List Bytes) : (s.finish st b v fs).resetIn = s.resetIn := rfl
@[simp] theorem finish_env (st : Status) (b : Bytes) (v : Bool) (fs : List Bytes) : (s.finish st b v fs).env = s.env := rfl
@[simp] theorem finish_trace (st : Status) (b : Bytes) (v : Bool) (fs : List Bytes) : (s.finish st b v fs).trace = s.trace := rfl

/-! ### `State.finishWith` -/

@[simp] theorem finishWith_rb (st : Status) (b : Bytes) : (s.finishWith st b).rb = s.rb := rfl
@[simp] theorem finishWith_acc (st : Status) (b : Bytes) : (s.finishWith st b).acc = s.acc := rfl
@[simp] theorem finishWith_items (st : Status) (b : Bytes) : (s.finishWith st b).items = s.items := rfl
@[simp] theorem finishWith_expected (st : Status) (b : Bytes) : (s.finishWith st b).expected = s.expected := rfl
@[simp] theorem finishWith_err (st : Status) (b : Bytes) : (s.finishWith st b).err = s.err := rfl
@[simp] theorem finishWith_haveUid (st : Status) (b : Bytes) : (s.finishWith st b).haveUid = s.haveUid := rfl
@[simp] theorem finishWith_busy (st : Status) (b : Bytes) : (s.finishWith st b).busy = false := rfl
@[simp] theorem finishWith_modeRaw (st : Status) (b : Bytes) : (s.finishWith st b).modeRaw = s.modeRaw := rfl
@[simp] theorem finishWith_deadline (st : Status) (b : Bytes) : (s.finishWith st b).deadline = s.deadline := rfl
@[simp] theorem finishWith_lastRx (st : Status) (b : Bytes) : (s.finishWith st b).lastRx = s.lastRx := rfl
@[simp] theorem finishWith_phase (st : Status) (b : Bytes) : (s.finishWith st b).phase = .idle := rfl
@[simp] theorem finishWith_resStatus (st : Status) (b : Bytes) : (s.finishWith st b).resStatus = st := rfl
@[simp] theorem finishWith_resBytes (st : Status) (b : Bytes) : (s.finishWith st b).resBytes = b := rfl
@[simp] theorem finishWith_resBool (st : Status) (b : Bytes) : (s.finishWith st b).resBool = (st == .ok) := rfl
@[simp] theorem finishWith_resFrames (st : Status) (b : Bytes) : (s.finishWith st b).resFrames = [] := rfl
@[simp] theorem finishWith_resNack (st : Status) (b : Bytes) : (s.finishWith st b).resNack = s.resNack := rfl
@[simp] theorem finishWith_resPretty (st : Status) (b : Bytes) : (s.finishWith st b).resPretty = s.resPretty := rfl
@[simp] theorem finishWith_cfg (st : Status) (b : Bytes) : (s.finishWith st b).cfg = s.cfg := rfl
@[simp] theorem finishWith_op (st : Status) (b : Bytes) : (s.finishWith st b).op = none := rfl
@[simp] theorem finishWith_rxByte (st : Status) (b : Bytes) : (s.finishWith st b).rxByte = none := rfl
@[simp] theorem finishWith_out (st : Status) (b : Bytes) : (s.finishWith st b).out = [] := rfl
@[simp] theorem finishWith_cause (st : Status) (b : Bytes) : (s.finishWith st b).cause = none := rfl
@[simp] theorem finishWith_done (st : Status) (b : Bytes) : (s.finishWith st b).done = true := rfl
@[simp] theorem finishWith_portAnswer (st : Status) (b : Bytes) : (s.finishWith st b).portAnswer = s.portAnswer := rfl
@[simp] theorem finishWith_request (st : Status) (b : Bytes) : (s.finishWith st b).request = s.request := rfl
@[simp] theorem finishWith_program (st : Status) (b : Bytes) : (s.finishWith st b).program = s.program := rfl
@[simp] theorem finishWith_resetIn (st : Status) (b : Bytes) : (s.finishWith st b).resetIn = s.resetIn := rfl
@[simp] theorem finishWith_env (st : Status) (b : Bytes) : (s.finishWith st b).env = s.env := rfl
@[simp] theorem finishWith_trace (st : Status) (b : Bytes) : (s.finishWith st b).trace = s.trace := rfl

/-! ### `State.tick` -/

@[simp] theorem tick_rb : (s.tick).rb = s.rb := rfl
@[simp] theorem tick_acc : (s.tick).acc = s.acc := rfl
@[simp] theorem tick_items : (s.tick).items = s.items := rfl
@[simp] theorem tick_expected : (s.tick).expected = s.expected := rfl
@[simp] theorem tick_err : (s.tick).err = s.err := rfl
@[simp] theorem tick_haveUid : (s.tick).haveUid = s.haveUid := rfl
@[simp] theorem tick_busy : (s.tick).busy = s.busy := rfl
@[simp] theorem tick_modeRaw : (s.tick).modeRaw = s.modeRaw := rfl
@[simp] theorem tick_deadline : (s.tick).deadline = s.deadline := rfl
@[simp] theorem tick_lastRx : (s.tick).lastRx = s.lastRx := rfl
@[simp] theorem tick_phase : (s.tick).phase = s.phase := rfl
@[simp] theorem tick_resStatus : (s.tick).resStatus = s.resStatus := rfl
@[simp] theorem tick_resBytes : (s.tick).resBytes = s.resBytes := rfl
@[simp] theorem tick_resBool : (s.tick).resBool = s.resBool := rfl
@[simp] theorem tick_resFrames : (s.tick).resFrames = s.resFrames := rfl
@[simp] theorem tick_resNack : (s.tick).resNack = s.resNack := rfl
@[simp] theorem tick_resPretty : (s.tick).resPretty = s.resPretty := rfl
@[simp] theorem tick_cfg : (s.tick).cfg = s.cfg := rfl
@[simp] theorem tick_op : (s.tick).op = s.op := rfl
@[simp] theorem tick_rxByte : (s.tick).rxByte = s.rxByte := rfl
@[simp] theorem tick_out : (s.tick).out = s.out := rfl
@[simp] theorem tick_cause : (s.tick).cause = s.cause := rfl
@[simp] theorem tick_done : (s.tick).done = false := rfl
@[simp] theorem tick_portAnswer : (s.tick).portAnswer = none := rfl
@[simp] theorem tick_request : (s.tick).request = s.request := rfl
@[simp] theorem tick_program : (s.tick).program = s.program := rfl
@[simp] theorem tick_resetIn : (s.tick).resetIn = s.resetIn := rfl
@[simp] theorem tick_env : (s.tick).env = s.env := rfl
@[simp] theorem tick_trace : (s.tick).trace = s.trace := rfl
@[simp] theorem tick_exchanging : (s.tick).exchanging = s.exchanging := rfl
@[simp] theorem tick_collecting : (s.tick).collecting = s.collecting := rfl
@[simp] theorem tick_stopsOnTerminal : (s.tick).stopsOnTerminal = s.stopsOnTerminal := rfl
@[simp] theorem tick_requestBytes : (s.tick).requestBytes = s.requestBytes := rfl

/-! ### `State.addItem` -/

@[simp] theorem addItem_rb (it : Item) : (s.addItem it).rb = s.rb := rfl
@[simp] theorem addItem_acc (it : Item) : (s.addItem it).acc = s.acc := rfl
@[simp] theorem addItem_items (it : Item) : (s.addItem it).items = s.items ++ [it] := rfl
@[simp] theorem addItem_expected (it : Item) : (s.addItem it).expected = s.expected := rfl
@[simp] theorem addItem_err (it : Item) : (s.addItem it).err = s.err := rfl
@[simp] theorem addItem_haveUid (it : Item) : (s.addItem it).haveUid = true := rfl
@[simp] theorem addItem_busy (it : Item) : (s.addItem it).busy = s.busy := rfl
@[simp] theorem addItem_modeRaw (it : Item) : (s.addItem it).modeRaw = s.modeRaw := rfl
@[simp] theorem addItem_deadline (it : Item) : (s.addItem it).deadline = s.deadline := rfl
@[simp] theorem addItem_lastRx (it : Item) : (s.addItem it).lastRx = s.lastRx := rfl
@[simp] theorem addItem_phase (it : Item) : (s.addItem it).phase = s.phase := rfl
@[simp] theorem addItem_resStatus (it : Item) : (s.addItem it).resStatus = s.resStatus := rfl
@[simp] theorem addItem_resBytes (it : Item) : (s.addItem it).resBytes = s.resBytes := rfl
@[simp] theorem addItem_resBool (it : Item) : (s.addItem it).resBool = s.resBool := rfl
@[simp] theorem addItem_resFrames (it : Item) : (s.addItem it).resFrames = s.resFrames := rfl
@[simp] theorem addItem_resNack (it : Item) : (s.addItem it).resNack = s.resNack := rfl
@[simp] theorem addItem_resPretty (it : Item) : (s.addItem it).resPretty = s.resPretty := rfl
@[simp] theorem addItem_cfg (it : Item) : (s.addItem it).cfg = s.cfg := rfl
@[simp] theorem addItem_op (it : Item) : (s.addItem it).op = s.op := rfl
@[simp] theorem addItem_rxByte (it : Item) : (s.addItem it).rxByte = s.rxByte := rfl
@[simp] theorem addItem_out (it : Item) : (s.addItem it).out = s.out := rfl
@[simp] theorem addItem_cause (it : Item) : (s.addItem it).cause = s.cause := rfl
@[simp] theorem addItem_done (it : Item) : (s.addItem it).done = s.done := rfl
@[simp] theorem addItem_portAnswer (it : Item) : (s.addItem it).portAnswer = s.portAnswer := rfl
@[simp] theorem addItem_request (it : Item) : (s.addItem it).request = s.request := rfl
@[simp] theorem addItem_program (it : Item) : (s.addItem it).program = s.program := rfl
@[simp] theorem addItem_resetIn (it : Item) : (s.addItem it).resetIn = s.resetIn := rfl
@[simp] theorem addItem_env (it : Item) : (s.addItem it).env = s.env := rfl
@[simp] theorem addItem_trace (it : Item) : (s.addItem it).trace = s.trace := rfl
@[simp] theorem addItem_exchanging (it : Item) : (s.addItem it).exchanging = s.exchanging := rfl
@[simp] theorem addItem_collecting (it : Item) : (s.addItem it).collecting = s.collecting := rfl
@[simp] theorem addItem_stopsOnTerminal (it : Item) : (s.addItem it).stopsOnTerminal = s.stopsOnTerminal := rfl
@[simp] theorem addItem_requestBytes (it : Item) : (s.addItem it).requestBytes = s.requestBytes := rfl

/-! ### `State.leaveLoop` -/

@[simp] theorem leaveLoop_rb (c : EndCause) : (s.leaveLoop c).rb = s.rb := rfl
@[simp] theorem leaveLoop_acc (c : EndCause) : (s.leaveLoop c).acc = s.acc := rfl
@[simp] theorem leaveLoop_items (c : EndCause) : (s.leaveLoop c).items = s.items := rfl
@[simp] theorem leaveLoop_expected (c : EndCause) : (s.leaveLoop c).expected = s.expected := rfl
@[simp] theorem leaveLoop_err (c : EndCause) : (s.leaveLoop c).err = s.err := rfl
@[simp] theorem leaveLoop_haveUid (c : EndCause) : (s.leaveLoop c).haveUid = s.haveUid := rfl
@[simp] theorem leaveLoop_busy (c : EndCause) : (s.leaveLoop c).busy = s.busy := rfl
@[simp] theorem leaveLoop_modeRaw (c : EndCause) : (s.leaveLoop c).modeRaw = s.modeRaw := rfl
@[simp] theorem leaveLoop_deadline (c : EndCause) : (s.leaveLoop c).deadline = s.deadline := rfl
@[simp] theorem leaveLoop_lastRx (c : EndCause) : (s.leaveLoop c).lastRx = s.lastRx := rfl
@[simp] theorem leaveLoop_phase (c : EndCause) : (s.leaveLoop c).phase = .finish := rfl
@[simp] theorem leaveLoop_resStatus (c : EndCause) : (s.leaveLoop c).resStatus = s.resStatus := rfl
@[simp] theorem leaveLoop_resBytes (c : EndCause) : (s.leaveLoop c).resBytes = s.resBytes := rfl
@[simp] theorem leaveLoop_resBool (c : EndCause) : (s.leaveLoop c).resBool = s.resBool := rfl
@[simp] theorem leaveLoop_resFrames (c : EndCause) : (s.leaveLoop c).resFrames = s.resFrames := rfl
@[simp] theorem leaveLoop_resNack (c : EndCause) : (s.leaveLoop c).resNack = s.resNack := rfl
@[simp] theorem leaveLoop_resPretty (c : EndCause) : (s.leaveLoop c).resPretty = s.resPretty := rfl
@[simp] theorem leaveLoop_cfg (c : EndCause) : (s.leaveLoop c).cfg = s.cfg := rfl
@[simp] theorem leaveLoop_op (c : EndCause) : (s.leaveLoop c).op = s.op := rfl
@[simp] theorem leaveLoop_rxByte (c : EndCause) : (s.leaveLoop c).rxByte = s.rxByte := rfl
@[simp] theorem leaveLoop_out (c : EndCause) : (s.leaveLoop c).out = [] := rfl
@[simp] theorem leaveLoop_cause (c : EndCause) : (s.leaveLoop c).cause = some c := rfl
@[simp] theorem leaveLoop_done (c : EndCause) : (s.leaveLoop c).done = s.done := rfl
@[simp] theorem leaveLoop_portAnswer (c : EndCause) : (s.leaveLoop c).portAnswer = s.portAnswer := rfl
@[simp] theorem leaveLoop_request (c : EndCause) : (s.leaveLoop c).request = s.request := rfl
@[simp] theorem leaveLoop_program (c : EndCause) : (s.leaveLoop c).program = s.program := rfl
@[simp] theorem leaveLoop_resetIn (c : EndCause) : (s.leaveLoop c).resetIn = s.resetIn := rfl
@[simp] theorem leaveLoop_env (c : EndCause) : (s.leaveLoop c).env = s.env := rfl
@[simp] theorem leaveLoop_trace (c : EndCause) : (s.leaveLoop c).trace = s.trace := rfl
@[simp] theorem leaveLoop_exchanging (c : EndCause) : (s.leaveLoop c).exchanging = s.exchanging := rfl
@[simp] theorem leaveLoop_collecting (c : EndCause) : (s.leaveLoop c).collecting = s.collecting := rfl
@[simp] theorem leaveLoop_stopsOnTerminal (c : EndCause) : (s.leaveLoop c).stopsOnTerminal = s.stopsOnTerminal := rfl
@[simp] theorem leaveLoop_requestBytes (c : EndCause) : (s.leaveLoop c).requestBytes = s.requestBytes := rfl

/-! ### `State.continueScan` -/

@[simp] theorem continueScan_rb : (s.continueScan).rb = s.rb := rfl
@[simp] theorem continueScan_acc : (s.continueScan).acc = s.acc := rfl
@[simp] theorem continueScan_items : (s.continueScan).items = s.items := rfl
@[simp] theorem continueScan_expected : (s.continueScan).expected = s.expected := rfl
@[simp] theorem continueScan_err : (s.continueScan).err = s.err := rfl
@[simp] theorem continueScan_haveUid : (s.continueScan).haveUid = s.haveUid := rfl
@[simp] theorem continueScan_busy : (s.continueScan).busy = s.busy := rfl
@[simp] theorem continueScan_modeRaw : (s.continueScan).modeRaw = s.modeRaw := rfl
@[simp] theorem continueScan_deadline : (s.continueScan).deadline = s.deadline := rfl
@[simp] theorem continueScan_lastRx : (s.continueScan).lastRx = s.lastRx := rfl
@[simp] theorem continueScan_phase : (s.continueScan).phase = if s.out.isEmpty then .check else .scan := rfl
@[simp] theorem continueScan_resStatus : (s.continueScan).resStatus = s.resStatus := rfl
@[simp] theorem continueScan_resBytes : (s.continueScan).resBytes = s.resBytes := rfl
@[simp] theorem continueScan_resBool : (s.continueScan).resBool = s.resBool := rfl
@[simp] theorem continueScan_resFrames : (s.continueScan).resFrames = s.resFrames := rfl
@[simp] theorem continueScan_resNack : (s.continueScan).resNack = s.resNack := rfl
@[simp] theorem continueScan_resPretty : (s.continueScan).resPretty = s.resPretty := rfl
@[simp] theorem continueScan_cfg : (s.continueScan).cfg = s.cfg := rfl
@[simp] theorem continueScan_op : (s.continueScan).op = s.op := rfl
@[simp] theorem continueScan_rxByte : (s.continueScan).rxByte = s.rxByte := rfl
@[simp] theorem continueScan_out : (s.continueScan).out = s.out := rfl
@[simp] theorem continueScan_cause : (s.continueScan).cause = s.cause := rfl
@[simp] theorem continueScan_done : (s.continueScan).done = s.done := rfl
@[simp] theorem continueScan_portAnswer : (s.continueScan).portAnswer = s.portAnswer := rfl
@[simp] theorem continueScan_request : (s.continueScan).request = s.request := rfl
@[simp] theorem continueScan_program : (s.continueScan).program = s.program := rfl
@[simp] theorem continueScan_resetIn : (s.continueScan).resetIn = s.resetIn := rfl
@[simp] theorem continueScan_env : (s.continueScan).env = s.env := rfl
@[simp] theorem continueScan_trace : (s.continueScan).trace = s.trace := rfl
@[simp] theorem continueScan_exchanging : (s.continueScan).exchanging = s.exchanging := rfl
@[simp] theorem continueScan_collecting : (s.continueScan).collecting = s.collecting := rfl
@[simp] theorem continueScan_stopsOnTerminal : (s.continueScan).stopsOnTerminal = s.stopsOnTerminal := rfl
@[simp] theorem continueScan_requestBytes : (s.continueScan).requestBytes = s.requestBytes := rfl

/-! ### `State.feedByte` -/

@[simp] theorem feedByte_rb (b : Byte) : (s.feedByte b).rb = (scanAll s.cfg.checksStx (s.rb ++ [b])).1 := rfl
@[simp] theorem feedByte_acc (b : Byte) : (s.feedByte b).acc = s.acc := rfl
@[simp] theorem feedByte_items (b : Byte) : (s.feedByte b).items = s.items := rfl
@[simp] theorem feedByte_expected (b : Byte) : (s.feedByte b).expected = s.expected := rfl
@[simp] theorem feedByte_err (b : Byte) : (s.feedByte b).err = s.err := rfl
@[simp] theorem feedByte_haveUid (b : Byte) : (s.feedByte b).haveUid = s.haveUid := rfl
@[simp] theorem feedByte_busy (b : Byte) : (s.feedByte b).busy = s.busy := rfl
@[simp] theorem feedByte_modeRaw (b : Byte) : (s.feedByte b).modeRaw = s.modeRaw := rfl
@[simp] theorem feedByte_deadline (b : Byte) : (s.feedByte b).deadline = s.deadline := rfl
@[simp] theorem feedByte_lastRx (b : Byte) : (s.feedByte b).lastRx = s.lastRx := rfl
@[simp] theorem feedByte_phase (b : Byte) : (s.feedByte b).phase = s.phase := rfl
@[simp] theorem feedByte_resStatus (b : Byte) : (s.feedByte b).resStatus = s.resStatus := rfl
@[simp] theorem feedByte_resBytes (b : Byte) : (s.feedByte b).resBytes = s.resBytes := rfl
@[simp] theorem feedByte_resBool (b : Byte) : (s.feedByte b).resBool = s.resBool := rfl
@[simp] theorem feedByte_resFrames (b : Byte) : (s.feedByte b).resFrames = s.resFrames := rfl
@[simp] theorem feedByte_resNack (b : Byte) : (s.feedByte b).resNack = s.resNack := rfl
@[simp] theorem feedByte_resPretty (b : Byte) : (s.feedByte b).resPretty = s.resPretty := rfl
@[simp] theorem feedByte_cfg (b : Byte) : (s.feedByte b).cfg = s.cfg := rfl
@[simp] theorem feedByte_op (b : Byte) : (s.feedByte b).op = s.op := rfl
@[simp] theorem feedByte_rxByte (b : Byte) : (s.feedByte b).rxByte = none := rfl
@[simp] theorem feedByte_out (b : Byte) : (s.feedByte b).out = (scanAll s.cfg.checksStx (s.rb ++ [b])).2 := rfl
@[simp] theorem feedByte_cause (b : Byte) : (s.feedByte b).cause = s.cause := rfl
@[simp] theorem feedByte_done (b : Byte) : (s.feedByte b).done = s.done := rfl
@[simp] theorem feedByte_portAnswer (b : Byte) : (s.feedByte b).portAnswer = s.portAnswer := rfl
@[simp] theorem feedByte_request (b : Byte) : (s.feedByte b).request = s.request := rfl
@[simp] theorem feedByte_program (b : Byte) : (s.feedByte b).program = s.program := rfl
@[simp] theorem feedByte_resetIn (b : Byte) : (s.feedByte b).resetIn = s.resetIn := rfl
@[simp] theorem feedByte_env (b : Byte) : (s.feedByte b).env = s.env := rfl
@[simp] theorem feedByte_trace (b : Byte) : (s.feedByte b).trace = s.trace := rfl
@[simp] theorem feedByte_exchanging (b : Byte) : (s.feedByte b).exchanging = s.exchanging := rfl
@[simp] theorem feedByte_collecting (b : Byte) : (s.feedByte b).collecting = s.collecting := rfl
@[simp] theorem feedByte_stopsOnTerminal (b : Byte) : (s.feedByte b).stopsOnTerminal = s.stopsOnTerminal := rfl
@[simp] theorem feedByte_requestBytes (b : Byte) : (s.feedByte b).requestBytes = s.requestBytes := rfl

/-! ### `State.writeFailure` -/

@[simp] theorem writeFailure_rb : (s.writeFailure).rb = s.rb := rfl
@[simp] theorem writeFailure_acc : (s.writeFailure).acc = s.acc := rfl
@[simp] theorem writeFailure_items : (s.writeFailure).items = s.items := rfl
@[simp] theorem writeFailure_expected : (s.writeFailure).expected = s.expected := rfl
@[simp] theorem writeFailure_err : (s.writeFailure).err = if s.collecting then .writeFailed else s.err := rfl
@[simp] theorem writeFailure_haveUid : (s.writeFailure).haveUid = s.haveUid := rfl
@[simp] theorem writeFailure_busy : (s.writeFailure).busy = s.busy := rfl
@[simp] theorem writeFailure_modeRaw : (s.writeFailure).modeRaw = s.modeRaw := rfl
@[simp] theorem writeFailure_deadline : (s.writeFailure).deadline = s.deadline := rfl
@[simp] theorem writeFailure_lastRx : (s.writeFailure).lastRx = s.lastRx := rfl
@[simp] theorem writeFailure_phase : (s.writeFailure).phase = .finish := rfl
@[simp] theorem writeFailure_resStatus : (s.writeFailure).resStatus = s.resStatus := rfl
@[simp] theorem writeFailure_resBytes : (s.writeFailure).resBytes = s.resBytes := rfl
@[simp] theorem writeFailure_resBool : (s.writeFailure).resBool = s.resBool := rfl
@[simp] theorem writeFailure_resFrames : (s.writeFailure).resFrames = s.resFrames := rfl
@[simp] theorem writeFailure_resNack : (s.writeFailure).resNack = s.resNack := rfl
@[simp] theorem writeFailure_resPretty : (s.writeFailure).resPretty = s.resPretty := rfl
@[simp] theorem writeFailure_cfg : (s.writeFailure).cfg = s.cfg := rfl
@[simp] theorem writeFailure_op : (s.writeFailure).op = s.op := rfl
@[simp] theorem writeFailure_rxByte : (s.writeFailure).rxByte = s.rxByte := rfl
@[simp] theorem writeFailure_out : (s.writeFailure).out = s.out := rfl
@[simp] theorem writeFailure_cause : (s.writeFailure).cause = some .writeFailed := rfl
@[simp] theorem writeFailure_done : (s.writeFailure).done = s.done := rfl
@[simp] theorem writeFailure_portAnswer : (s.writeFailure).portAnswer = s.portAnswer := rfl
@[simp] theorem writeFailure_request : (s.writeFailure).request = s.request := rfl
@[simp] theorem writeFailure_program : (s.writeFailure).program = s.program := rfl
@[simp] theorem writeFailure_resetIn : (s.writeFailure).resetIn = s.resetIn := rfl
@[simp] theorem writeFailure_env : (s.writeFailure).env = s.env := rfl
@[simp] theorem writeFailure_trace : (s.writeFailure).trace = s.trace ++ [.cmt .writeFailed] := rfl
@[simp] theorem writeFailure_exchanging : (s.writeFailure).exchanging = s.exchanging := rfl
@[simp] theorem writeFailure_collecting : (s.writeFailure).collecting = s.collecting := rfl
@[simp] theorem writeFailure_stopsOnTerminal : (s.writeFailure).stopsOnTerminal = s.stopsOnTerminal := rfl
@[simp] theorem writeFailure_requestBytes : (s.writeFailure).requestBytes = s.requestBytes := rfl

/-! ### `State.rejectBusy` -/

@[simp] theorem rejectBusy_rb : (s.rejectBusy).rb = s.rb := rfl
@[simp] theorem rejectBusy_acc : (s.rejectBusy).acc = s.acc := rfl
@[simp] theorem rejectBusy_items : (s.rejectBusy).items = s.items := rfl
@[simp] theorem rejectBusy_expected : (s.rejectBusy).expected = s.expected := rfl
@[simp] theorem rejectBusy_err : (s.rejectBusy).err = s.err := rfl
@[simp] theorem rejectBusy_haveUid : (s.rejectBusy).haveUid = s.haveUid := rfl
@[simp] theorem rejectBusy_busy : (s.rejectBusy).busy = s.busy := rfl
@[simp] theorem rejectBusy_modeRaw : (s.rejectBusy).modeRaw = s.modeRaw := rfl
@[simp] theorem rejectBusy_deadline : (s.rejectBusy).deadline = s.deadline := rfl
@[simp] theorem rejectBusy_lastRx : (s.rejectBusy).lastRx = s.lastRx := rfl
@[simp] theorem rejectBusy_phase : (s.rejectBusy).phase = s.phase := rfl
@[simp] theorem rejectBusy_resStatus : (s.rejectBusy).resStatus = s.resStatus := rfl
@[simp] theorem rejectBusy_resBytes : (s.rejectBusy).resBytes = s.resBytes := rfl
@[simp] theorem rejectBusy_resBool : (s.rejectBusy).resBool = s.resBool := rfl
@[simp] theorem rejectBusy_resFrames : (s.rejectBusy).resFrames = s.resFrames := rfl
@[simp] theorem rejectBusy_resNack : (s.rejectBusy).resNack = s.resNack := rfl
@[simp] theorem rejectBusy_resPretty : (s.rejectBusy).resPretty = s.resPretty := rfl
@[simp] theorem rejectBusy_cfg : (s.rejectBusy).cfg = s.cfg := rfl
@[simp] theorem rejectBusy_op : (s.rejectBusy).op = s.op := rfl
@[simp] theorem rejectBusy_rxByte : (s.rejectBusy).rxByte = s.rxByte := rfl
@[simp] theorem rejectBusy_out : (s.rejectBusy).out = s.out := rfl
@[simp] theorem rejectBusy_cause : (s.rejectBusy).cause = s.cause := rfl
@[simp] theorem rejectBusy_done : (s.rejectBusy).done = s.done := rfl
@[simp] theorem rejectBusy_portAnswer : (s.rejectBusy).portAnswer = some .busy := rfl
@[simp] theorem rejectBusy_request : (s.rejectBusy).request = s.request := rfl
@[simp] theorem rejectBusy_program : (s.rejectBusy).program = s.program := rfl
@[simp] theorem rejectBusy_resetIn : (s.rejectBusy).resetIn = s.resetIn := rfl
@[simp] theorem rejectBusy_env : (s.rejectBusy).env = s.env := rfl
@[simp] theorem rejectBusy_trace : (s.rejectBusy).trace = s.trace := rfl
@[simp] theorem rejectBusy_exchanging : (s.rejectBusy).exchanging = s.exchanging := rfl
@[simp] theorem rejectBusy_collecting : (s.rejectBusy).collecting = s.collecting := rfl
@[simp] theorem rejectBusy_stopsOnTerminal : (s.rejectBusy).stopsOnTerminal = s.stopsOnTerminal := rfl
@[simp] theorem rejectBusy_requestBytes : (s.rejectBusy).requestBytes = s.requestBytes := rfl

/-! ### `State.rejectIllegal` -/

@[simp] theorem rejectIllegal_rb : (s.rejectIllegal).rb = s.rb := rfl
@[simp] theorem rejectIllegal_acc : (s.rejectIllegal).acc = s.acc := rfl
@[simp] theorem rejectIllegal_items : (s.rejectIllegal).items = s.items := rfl
@[simp] theorem rejectIllegal_expected : (s.rejectIllegal).expected = s.expected := rfl
@[simp] theorem rejectIllegal_err : (s.rejectIllegal).err = s.err := rfl
@[simp] theorem rejectIllegal_haveUid : (s.rejectIllegal).haveUid = s.haveUid := rfl
@[simp] theorem rejectIllegal_busy : (s.rejectIllegal).busy = s.busy := rfl
@[simp] theorem rejectIllegal_modeRaw : (s.rejectIllegal).modeRaw = s.modeRaw := rfl
@[simp] theorem rejectIllegal_deadline : (s.rejectIllegal).deadline = s.deadline := rfl
@[simp] theorem rejectIllegal_lastRx : (s.rejectIllegal).lastRx = s.lastRx := rfl
@[simp] theorem rejectIllegal_phase : (s.rejectIllegal).phase = s.phase := rfl
@[simp] theorem rejectIllegal_resStatus : (s.rejectIllegal).resStatus = .illegalOp := rfl
@[simp] theorem rejectIllegal_resBytes : (s.rejectIllegal).resBytes = s.resBytes := rfl
@[simp] theorem rejectIllegal_resBool : (s.rejectIllegal).resBool = s.resBool := rfl
@[simp] theorem rejectIllegal_resFrames : (s.rejectIllegal).resFrames = s.resFrames := rfl
@[simp] theorem rejectIllegal_resNack : (s.rejectIllegal).resNack = s.resNack := rfl
@[simp] theorem rejectIllegal_resPretty : (s.rejectIllegal).resPretty = s.resPretty := rfl
@[simp] theorem rejectIllegal_cfg : (s.rejectIllegal).cfg = s.cfg := rfl
@[simp] theorem rejectIllegal_op : (s.rejectIllegal).op = s.op := rfl
@[simp] theorem rejectIllegal_rxByte : (s.rejectIllegal).rxByte = s.rxByte := rfl
@[simp] theorem rejectIllegal_out : (s.rejectIllegal).out = s.out := rfl
@[simp] theorem rejectIllegal_cause : (s.rejectIllegal).cause = s.cause := rfl
@[simp] theorem rejectIllegal_done : (s.rejectIllegal).done = true := rfl
@[simp] theorem rejectIllegal_portAnswer : (s.rejectIllegal).portAnswer = some .illegalOp := rfl
@[simp] theorem rejectIllegal_request : (s.rejectIllegal).request = s.request := rfl
@[simp] theorem rejectIllegal_program : (s.rejectIllegal).program = s.program := rfl
@[simp] theorem rejectIllegal_resetIn : (s.rejectIllegal).resetIn = s.resetIn := rfl
@[simp] theorem rejectIllegal_env : (s.rejectIllegal).env = s.env := rfl
@[simp] theorem rejectIllegal_trace : (s.rejectIllegal).trace = s.trace := rfl
@[simp] theorem rejectIllegal_exchanging : (s.rejectIllegal).exchanging = s.exchanging := rfl
@[simp] theorem rejectIllegal_collecting : (s.rejectIllegal).collecting = s.collecting := rfl
@[simp] theorem rejectIllegal_stopsOnTerminal : (s.rejectIllegal).stopsOnTerminal = s.stopsOnTerminal := rfl
@[simp] theorem rejectIllegal_requestBytes : (s.rejectIllegal).requestBytes = s.requestBytes := rfl

/-! ### `State.exchangeStart` -/

@[simp] theorem exchangeStart_rb (b : Nat) : (s.exchangeStart b).rb = [] := rfl
@[simp] theorem exchangeStart_acc (b : Nat) : (s.exchangeStart b).acc = [] := rfl
@[simp] theorem exchangeStart_items (b : Nat) : (s.exchangeStart b).items = s.items := rfl
@[simp] theorem exchangeStart_expected (b : Nat) : (s.exchangeStart b).expected = s.expected := rfl
@[simp] theorem exchangeStart_err (b : Nat) : (s.exchangeStart b).err = s.err := rfl
@[simp] theorem exchangeStart_haveUid (b : Nat) : (s.exchangeStart b).haveUid = s.haveUid := rfl
@[simp] theorem exchangeStart_busy (b : Nat) : (s.exchangeStart b).busy = s.busy := rfl
@[simp] theorem exchangeStart_modeRaw (b : Nat) : (s.exchangeStart b).modeRaw = s.modeRaw := rfl
@[simp] theorem exchangeStart_deadline (b : Nat) : (s.exchangeStart b).deadline = s.env.afterNow.clock + b := rfl
@[simp] theorem exchangeStart_lastRx (b : Nat) : (s.exchangeStart b).lastRx = s.lastRx := rfl
@[simp] theorem exchangeStart_phase (b : Nat) : (s.exchangeStart b).phase = .send := rfl
@[simp] theorem exchangeStart_resStatus (b : Nat) : (s.exchangeStart b).resStatus = s.resStatus := rfl
@[simp] theorem exchangeStart_resBytes (b : Nat) : (s.exchangeStart b).resBytes = s.resBytes := rfl
@[simp] theorem exchangeStart_resBool (b : Nat) : (s.exchangeStart b).resBool = s.resBool := rfl
@[simp] theorem exchangeStart_resFrames (b : Nat) : (s.exchangeStart b).resFrames = s.resFrames := rfl
@[simp] theorem exchangeStart_resNack (b : Nat) : (s.exchangeStart b).resNack = s.resNack := rfl
@[simp] theorem exchangeStart_resPretty (b : Nat) : (s.exchangeStart b).resPretty = s.resPretty := rfl
@[simp] theorem exchangeStart_cfg (b : Nat) : (s.exchangeStart b).cfg = s.cfg := rfl
@[simp] theorem exchangeStart_op (b : Nat) : (s.exchangeStart b).op = s.op := rfl
@[simp] theorem exchangeStart_rxByte (b : Nat) : (s.exchangeStart b).rxByte = s.rxByte := rfl
@[simp] theorem exchangeStart_out (b : Nat) : (s.exchangeStart b).out = s.out := rfl
@[simp] theorem exchangeStart_cause (b : Nat) : (s.exchangeStart b).cause = s.cause := rfl
@[simp] theorem exchangeStart_done (b : Nat) : (s.exchangeStart b).done = s.done := rfl
@[simp] theorem exchangeStart_portAnswer (b : Nat) : (s.exchangeStart b).portAnswer = s.portAnswer := rfl
@[simp] theorem exchangeStart_request (b : Nat) : (s.exchangeStart b).request = s.request := rfl
@[simp] theorem exchangeStart_program (b : Nat) : (s.exchangeStart b).program = s.program := rfl
@[simp] theorem exchangeStart_resetIn (b : Nat) : (s.exchangeStart b).resetIn = s.resetIn := rfl
@[simp] theorem exchangeStart_env (b : Nat) : (s.exchangeStart b).env = s.env.afterNow := rfl
@[simp] theorem exchangeStart_trace (b : Nat) : (s.exchangeStart b).trace = s.trace := rfl
@[simp] theorem exchangeStart_exchanging (b : Nat) : (s.exchangeStart b).exchanging = s.exchanging := rfl
@[simp] theorem exchangeStart_collecting (b : Nat) : (s.exchangeStart b).collecting = s.collecting := rfl
@[simp] theorem exchangeStart_stopsOnTerminal (b : Nat) : (s.exchangeStart b).stopsOnTerminal = s.stopsOnTerminal := rfl
@[simp] theorem exchangeStart_requestBytes (b : Nat) : (s.exchangeStart b).requestBytes = s.requestBytes := rfl

/-! ### `State.exchangeBackoff` -/

@[simp] theorem exchangeBackoff_rb : (s.exchangeBackoff).rb = s.rb := rfl
@[simp] theorem exchangeBackoff_acc : (s.exchangeBackoff).acc = s.acc := rfl
@[simp] theorem exchangeBackoff_items : (s.exchangeBackoff).items = s.items := rfl
@[simp] theorem exchangeBackoff_expected : (s.exchangeBackoff).expected = s.expected := rfl
@[simp] theorem exchangeBackoff_err : (s.exchangeBackoff).err = s.err := rfl
@[simp] theorem exchangeBackoff_haveUid : (s.exchangeBackoff).haveUid = s.haveUid := rfl
@[simp] theorem exchangeBackoff_busy : (s.exchangeBackoff).busy = s.busy := rfl
@[simp] theorem exchangeBackoff_modeRaw : (s.exchangeBackoff).modeRaw = s.modeRaw := rfl
@[simp] theorem exchangeBackoff_deadline : (s.exchangeBackoff).deadline = s.deadline := rfl
@[simp] theorem exchangeBackoff_lastRx : (s.exchangeBackoff).lastRx = s.lastRx := rfl
@[simp] theorem exchangeBackoff_phase : (s.exchangeBackoff).phase = .check := rfl
@[simp] theorem exchangeBackoff_resStatus : (s.exchangeBackoff).resStatus = s.resStatus := rfl
@[simp] theorem exchangeBackoff_resBytes : (s.exchangeBackoff).resBytes = s.resBytes := rfl
@[simp] theorem exchangeBackoff_resBool : (s.exchangeBackoff).resBool = s.resBool := rfl
@[simp] theorem exchangeBackoff_resFrames : (s.exchangeBackoff).resFrames = s.resFrames := rfl
@[simp] theorem exchangeBackoff_resNack : (s.exchangeBackoff).resNack = s.resNack := rfl
@[simp] theorem exchangeBackoff_resPretty : (s.exchangeBackoff).resPretty = s.resPretty := rfl
@[simp] theorem exchangeBackoff_cfg : (s.exchangeBackoff).cfg = s.cfg := rfl
@[simp] theorem exchangeBackoff_op : (s.exchangeBackoff).op = s.op := rfl
@[simp] theorem exchangeBackoff_rxByte : (s.exchangeBackoff).rxByte = s.rxByte := rfl
@[simp] theorem exchangeBackoff_out : (s.exchangeBackoff).out = s.out := rfl
@[simp] theorem exchangeBackoff_cause : (s.exchangeBackoff).cause = s.cause := rfl
@[simp] theorem exchangeBackoff_done : (s.exchangeBackoff).done = s.done := rfl
@[simp] theorem exchangeBackoff_portAnswer : (s.exchangeBackoff).portAnswer = s.portAnswer := rfl
@[simp] theorem exchangeBackoff_request : (s.exchangeBackoff).request = s.request := rfl
@[simp] theorem exchangeBackoff_program : (s.exchangeBackoff).program = s.program := rfl
@[simp] theorem exchangeBackoff_resetIn : (s.exchangeBackoff).resetIn = s.resetIn := rfl
@[simp] theorem exchangeBackoff_env : (s.exchangeBackoff).env = s.env.afterSleep s.cfg.backoffMs := rfl
@[simp] theorem exchangeBackoff_trace : (s.exchangeBackoff).trace = s.trace := rfl
@[simp] theorem exchangeBackoff_exchanging : (s.exchangeBackoff).exchanging = s.exchanging := rfl
@[simp] theorem exchangeBackoff_collecting : (s.exchangeBackoff).collecting = s.collecting := rfl
@[simp] theorem exchangeBackoff_stopsOnTerminal : (s.exchangeBackoff).stopsOnTerminal = s.stopsOnTerminal := rfl
@[simp] theorem exchangeBackoff_requestBytes : (s.exchangeBackoff).requestBytes = s.requestBytes := rfl

/-! ### `State.accumulate` -/

@[simp] theorem accumulate_rb (f : Bytes) : (s.accumulate f).rb = s.rb := rfl
@[simp] theorem accumulate_acc (f : Bytes) : (s.accumulate f).acc = s.acc ++ f := rfl
@[simp] theorem accumulate_items (f : Bytes) : (s.accumulate f).items = s.items := rfl
@[simp] theorem accumulate_expected (f : Bytes) : (s.accumulate f).expected = s.expected := rfl
@[simp] theorem accumulate_err (f : Bytes) : (s.accumulate f).err = s.err := rfl
@[simp] theorem accumulate_haveUid (f : Bytes) : (s.accumulate f).haveUid = s.haveUid := rfl
@[simp] theorem accumulate_busy (f : Bytes) : (s.accumulate f).busy = s.busy := rfl
@[simp] theorem accumulate_modeRaw (f : Bytes) : (s.accumulate f).modeRaw = s.modeRaw := rfl
@[simp] theorem accumulate_deadline (f : Bytes) : (s.accumulate f).deadline = s.deadline := rfl
@[simp] theorem accumulate_lastRx (f : Bytes) : (s.accumulate f).lastRx = s.lastRx := rfl
@[simp] theorem accumulate_phase (f : Bytes) : (s.accumulate f).phase = s.phase := rfl
@[simp] theorem accumulate_resStatus (f : Bytes) : (s.accumulate f).resStatus = s.resStatus := rfl
@[simp] theorem accumulate_resBytes (f : Bytes) : (s.accumulate f).resBytes = s.resBytes := rfl
@[simp] theorem accumulate_resBool (f : Bytes) : (s.accumulate f).resBool = s.resBool := rfl
@[simp] theorem accumulate_resFrames (f : Bytes) : (s.accumulate f).resFrames = s.resFrames := rfl
@[simp] theorem accumulate_resNack (f : Bytes) : (s.accumulate f).resNack = s.resNack := rfl
@[simp] theorem accumulate_resPretty (f : Bytes) : (s.accumulate f).resPretty = s.resPretty := rfl
@[simp] theorem accumulate_cfg (f : Bytes) : (s.accumulate f).cfg = s.cfg := rfl
@[simp] theorem accumulate_op (f : Bytes) : (s.accumulate f).op = s.op := rfl
@[simp] theorem accumulate_rxByte (f : Bytes) : (s.accumulate f).rxByte = s.rxByte := rfl
@[simp] theorem accumulate_out (f : Bytes) : (s.accumulate f).out = s.out := rfl
@[simp] theorem accumulate_cause (f : Bytes) : (s.accumulate f).cause = s.cause := rfl
@[simp] theorem accumulate_done (f : Bytes) : (s.accumulate f).done = s.done := rfl
@[simp] theorem accumulate_portAnswer (f : Bytes) : (s.accumulate f).portAnswer = s.portAnswer := rfl
@[simp] theorem accumulate_request (f : Bytes) : (s.accumulate f).request = s.request := rfl
@[simp] theorem accumulate_program (f : Bytes) : (s.accumulate f).program = s.program := rfl
@[simp] theorem accumulate_resetIn (f : Bytes) : (s.accumulate f).resetIn = s.resetIn := rfl
@[simp] theorem accumulate_env (f : Bytes) : (s.accumulate f).env = s.env := rfl
@[simp] theorem accumulate_trace (f : Bytes) : (s.accumulate f).trace = s.trace ++ [.recv f] := rfl
@[simp] theorem accumulate_exchanging (f : Bytes) : (s.accumulate f).exchanging = s.exchanging := rfl
@[simp] theorem accumulate_collecting (f : Bytes) : (s.accumulate f).collecting = s.collecting := rfl
@[simp] theorem accumulate_stopsOnTerminal (f : Bytes) : (s.accumulate f).stopsOnTerminal = s.stopsOnTerminal := rfl
@[simp] theorem accumulate_requestBytes (f : Bytes) : (s.accumulate f).requestBytes = s.requestBytes := rfl

variable (e : Env)

/-! ### `Env.afterNow` -/

@[simp] theorem afterNow_clock : (e.afterNow).clock = e.clock + e.advance := rfl
@[simp] theorem afterNow_nowQ : (e.afterNow).nowQ = e.nowQ.tail := rfl
@[simp] theorem afterNow_writeQ : (e.afterNow).writeQ = e.writeQ := rfl
@[simp] theorem afterNow_readQ : (e.afterNow).readQ = e.readQ := rfl
@[simp] theorem afterNow_draws : (e.afterNow).draws = e.draws + 1 := rfl
@[simp] theorem afterNow_calls : (e.afterNow).calls = e.calls ++ [.now] := rfl

/-! ### `Env.afterWrite` -/

@[simp] theorem afterWrite_clock (b : Bytes) : (e.afterWrite b).clock = e.clock := rfl
@[simp] theorem afterWrite_nowQ (b : Bytes) : (e.afterWrite b).nowQ = e.nowQ := rfl
@[simp] theorem afterWrite_writeQ (b : Bytes) : (e.afterWrite b).writeQ = e.writeQ.tail := rfl
@[simp] theorem afterWrite_readQ (b : Bytes) : (e.afterWrite b).readQ = e.readQ := rfl
@[simp] theorem afterWrite_draws (b : Bytes) : (e.afterWrite b).draws = e.draws + 1 := rfl
@[simp] theorem afterWrite_calls (b : Bytes) : (e.afterWrite b).calls = e.calls ++ [.write b e.writeAnswer] := rfl

/-! ### `Env.afterRead` -/

@[simp] theorem afterRead_clock (ms : Nat) : (e.afterRead ms).clock = e.clock := rfl
@[simp] theorem afterRead_nowQ (ms : Nat) : (e.afterRead ms).nowQ = e.nowQ := rfl
@[simp] theorem afterRead_writeQ (ms : Nat) : (e.afterRead ms).writeQ = e.writeQ := rfl
@[simp] theorem afterRead_readQ (ms : Nat) : (e.afterRead ms).readQ = e.readQ.tail := rfl
@[simp] theorem afterRead_draws (ms : Nat) : (e.afterRead ms).draws = e.draws + 1 := rfl
@[simp] theorem afterRead_calls (ms : Nat) : (e.afterRead ms).calls = e.calls ++ [.readByte ms e.readAnswer] := rfl

/-! ### `Env.afterSleep` -/

@[simp] theorem afterSleep_clock (ms : Nat) : (e.afterSleep ms).clock = e.clock := rfl
@[simp] theorem afterSleep_nowQ (ms : Nat) : (e.afterSleep ms).nowQ = e.nowQ := rfl
@[simp] theorem afterSleep_writeQ (ms : Nat) : (e.afterSleep ms).writeQ = e.writeQ := rfl
@[simp] theorem afterSleep_readQ (ms : Nat) : (e.afterSleep ms).readQ = e.readQ := rfl
@[simp] theorem afterSleep_draws (ms : Nat) : (e.afterSleep ms).draws = e.draws := rfl
@[simp] theorem afterSleep_calls (ms : Nat) : (e.afterSleep ms).calls = e.calls ++ [.sleep ms] := rfl

/-- The answers of `Now()` never decrease (10_state.md R36). -/
theorem clock_le_afterNow : e.clock ≤ e.afterNow.clock := Nat.le_add_right _ _

end Sys2Proof.Machine
end

