-- ==== Sys2Proof/Laws/Accumulator.lean ====
section
/-! SUPPORT. Nobody can see what INVENTORY leaves in ACC: INVENTORY does not read it, the host does not read it (00_scope.md R8, 10_state.md R39), and the next exchange clears it before it is read (42_transactor.md R172). So the two readings of 20_memory.md R72 and 44_inventory.md R220 differ in ACC itself only (log 17). -/

namespace Sys2Proof.Machine

/-- The state with another ACC. -/
def State.withAcc (a : Bytes) (s : State) : State := { s with acc := a }

variable (a : Bytes) (s : State)

theorem withAcc_hostView : (s.withAcc a).hostView = s.hostView := rfl

/-- The start of an exchange forgets the old ACC. -/
theorem withAcc_exchangeStart (budgetMs : Nat) :
    (s.withAcc a).exchangeStart budgetMs = s.exchangeStart budgetMs := rfl

theorem withAcc_transmit (bytes : Bytes) :
    (s.withAcc a).transmit bytes = (s.transmit bytes).withAcc a := by
  unfold State.transmit
  rw [show (s.withAcc a).env = s.env from rfl]
  split <;> rfl

theorem withAcc_sendRequest : (s.withAcc a).sendRequest = s.sendRequest.withAcc a := by
  unfold State.sendRequest
  rw [show (s.withAcc a).requestBytes = s.requestBytes from rfl]
  split
  · exact withAcc_transmit a s _
  · rfl

theorem withAcc_checkDeadline : (s.withAcc a).checkDeadline = s.checkDeadline.withAcc a := by
  unfold State.checkDeadline
  rw [show (s.withAcc a).deadline = s.deadline from rfl,
    show (s.withAcc a).sampled.env.clock = s.sampled.env.clock from rfl]
  split <;> rfl

theorem withAcc_pollByte : (s.withAcc a).pollByte = s.pollByte.withAcc a := by
  unfold State.pollByte
  rw [show (s.withAcc a).env = s.env from rfl]
  split <;> rfl

theorem withAcc_raceCheck : (s.withAcc a).raceCheck = s.raceCheck.withAcc a := by
  unfold State.raceCheck State.afterDone
  rw [show (s.withAcc a).isDone = s.isDone from rfl, show (s.withAcc a).doneSamples = s.doneSamples from rfl]
  split <;> split <;> rfl

theorem raceCheck_of_withAcc {u v : State} (h : u = v.withAcc a) : u.raceCheck = v.raceCheck.withAcc a :=
  h ▸ withAcc_raceCheck a v

theorem withAcc_inventoryFrame (f : Bytes) :
    (s.withAcc a).inventoryFrame f = (s.inventoryFrame f).withAcc a := by
  unfold State.inventoryFrame State.inventoryAck State.inventoryTag State.inventoryOther
  split
  · split
    · split <;> exact raceCheck_of_withAcc a rfl
    · exact raceCheck_of_withAcc a rfl
  · split
    · rfl
    · split
      · split <;> exact raceCheck_of_withAcc a rfl
      · exact raceCheck_of_withAcc a rfl

theorem withAcc_inventoryScan : (s.withAcc a).inventoryScan = s.inventoryScan.withAcc a := by
  unfold State.inventoryScan
  rw [show (s.withAcc a).rxByte = s.rxByte from rfl, show (s.withAcc a).out = s.out from rfl]
  split
  · rfl
  · rename_i f rest _ _
    exact withAcc_inventoryFrame a { s with out := rest } f
  · rfl

theorem withAcc_inventoryFinish : (s.withAcc a).inventoryFinish = s.inventoryFinish.withAcc a := by
  unfold State.inventoryFinish
  rw [show (s.withAcc a).items = s.items from rfl, show (s.withAcc a).err = s.err from rfl]
  split <;> rfl

/-- Every step of INVENTORY is the same whatever ACC holds, and carries ACC along. -/
theorem withAcc_execInventory (budgetMs : Nat) :
    execInventory budgetMs (s.withAcc a) = mapNext (State.withAcc a) (execInventory budgetMs s) := by
  unfold execInventory hostOp
  dsimp only
  rw [show (s.withAcc a).busy = s.busy from rfl, show (s.withAcc a).op = s.op from rfl,
    show (s.withAcc a).phase = s.phase from rfl]
  split
  · split
    · refine congrArg Host.Outcome.next ?_
      split
      · rfl
      · rfl
      · exact withAcc_sendRequest a s
      · exact withAcc_checkDeadline a s
      · exact withAcc_pollByte a s
      · exact withAcc_raceCheck a s.slept
      · exact withAcc_inventoryScan a s
      · exact withAcc_inventoryFinish a s
    · rfl
  · rfl

end Sys2Proof.Machine
end

