-- ==== Sys2Proof/Laws/Codec.lean ====
section
/-! SUPPORT. Small facts of the frame codec: indexing, the checksum, the shape of a built frame. -/

namespace Sys2Proof

@[simp] theorem byteAt_nil (i : Nat) : byteAt [] i = 0 := by simp [byteAt]

@[simp] theorem byteAt_cons_zero (b : Byte) (s : Bytes) : byteAt (b :: s) 0 = b := by simp [byteAt]

@[simp] theorem byteAt_cons_succ (b : Byte) (s : Bytes) (i : Nat) :
    byteAt (b :: s) (i + 1) = byteAt s i := by simp [byteAt]

theorem byteAt_append_left {s t : Bytes} {i : Nat} (h : i < s.length) :
    byteAt (s ++ t) i = byteAt s i := by
  simp [byteAt, List.getD, List.getElem?_append_left h]

theorem byteAt_append_right {s t : Bytes} {i : Nat} (h : s.length ≤ i) :
    byteAt (s ++ t) i = byteAt t (i - s.length) := by
  simp [byteAt, List.getD, List.getElem?_append_right h]

theorem byteAt_take {s : Bytes} {i n : Nat} (h : i < n) : byteAt (s.take n) i = byteAt s i := by
  simp [byteAt, List.getD, h]

theorem byteAt_drop (s : Bytes) (i n : Nat) : byteAt (s.drop n) i = byteAt s (n + i) := by
  simp [byteAt, List.getD]

@[simp] theorem sum8_nil : sum8 [] = 0 := rfl

@[simp] theorem sum8_cons (b : Byte) (s : Bytes) : sum8 (b :: s) = b + sum8 s := rfl

@[simp] theorem sum8_append (s t : Bytes) : sum8 (s ++ t) = sum8 s + sum8 t := by
  induction s with
  | nil => simp
  | cons b s ih => simp [ih, BitVec.add_assoc]

/-- SUM8 is the arithmetic sum modulo 256 (30_encoding.md R93). -/
theorem sum8_eq_ofNat (s : Bytes) : sum8 s = BitVec.ofNat 8 (s.map BitVec.toNat).sum := by
  induction s with
  | nil => rfl
  | cons b s ih => simp [ih, BitVec.ofNat_add]

@[simp] theorem length_frameBody (a c : Byte) (p : Bytes) :
    (frameBody a c p).length = p.length + 5 := by simp [frameBody]

@[simp] theorem length_buildFrame (a c : Byte) (p : Bytes) :
    (buildFrame a c p).length = p.length + 7 := by simp [buildFrame]

/-- The announced length is 7 to 262 (40_framecodec.md R133). -/
theorem needOf_bounds (s : Bytes) : 7 ≤ needOf s ∧ needOf s ≤ 262 := by
  have := (byteAt s 3).isLt
  simp only [needOf]; omega

/-- The announced length depends on the first four bytes only. -/
theorem needOf_append {s t : Bytes} (h : 4 ≤ s.length) : needOf (s ++ t) = needOf s := by
  simp [needOf, byteAt_append_left (show 3 < s.length by omega)]

theorem needOf_take {s : Bytes} {n : Nat} (h : 4 ≤ n) : needOf (s.take n) = needOf s := by
  simp [needOf, byteAt_take (show 3 < n by omega)]

/-- What VALIDATE tests, as propositions (40_framecodec.md R134). -/
theorem validateFrame_iff (c : Bool) (b : Bytes) :
    validateFrame c b = true ↔
      7 ≤ b.length ∧ needOf b = b.length ∧ byteAt b (b.length - 3) = Config.etx ∧
        byteAt b (b.length - 1) = Config.cr ∧ byteAt b (b.length - 2) = sum8 (b.take (b.length - 2)) ∧
        (c = true → byteAt b 0 = Config.stx) := by
  cases c <;> simp [validateFrame, and_assoc]

/-- On a sequence that starts with STX the parameter VALIDATE_CHECKS_STX cannot be seen (D7). -/
theorem validateFrame_of_stx {c : Bool} {b : Bytes} (h : byteAt b 0 = Config.stx) :
    validateFrame c b = validateFrame true b := by
  cases c <;> simp [validateFrame, h]

theorem validateFrame_weaken {c : Bool} {b : Bytes} (h : validateFrame true b = true) :
    validateFrame c b = true := by
  rw [validateFrame_iff] at *
  exact ⟨h.1, h.2.1, h.2.2.1, h.2.2.2.1, h.2.2.2.2.1, fun _ => h.2.2.2.2.2 rfl⟩

end Sys2Proof
end

