-- ==== Sys2Proof/Laws/Exec.lean ====
section
/-! SUPPORT. What the shared operations can do, one lemma each, for the proofs to cite instead of unfolding. -/

namespace Sys2Proof.Machine

variable {s t : State} {i j : Instr} {body : State → State}

/-! ### Host operations -/

theorem hostOp_idle (h : s.busy = false) : hostOp i body s = .next (s.accept i) := by
  simp [hostOp, h]

theorem hostOp_running (hb : s.busy = true) (ho : s.op = some i) : hostOp i body s = .next (body s) := by
  simp [hostOp, hb, ho]

theorem hostOp_other (hb : s.busy = true) (ho : s.op ≠ some i) :
    hostOp i body s = .next s.rejectBusy := by
  simp [hostOp, hb, ho]

/-- A host operation is accepted, makes a step, or is turned away. -/
theorem hostOp_cases (h : hostOp i body s = .next t) :
    (s.busy = false ∧ t = s.accept i) ∨ (s.busy = true ∧ s.op = some i ∧ t = body s) ∨
      (s.busy = true ∧ s.op ≠ some i ∧ t = s.rejectBusy) := by
  cases hb : s.busy with
  | false => rw [hostOp_idle hb] at h; cases h; exact .inl ⟨rfl, rfl⟩
  | true =>
    by_cases ho : s.op = some i
    · rw [hostOp_running hb ho] at h; cases h; exact .inr (.inl ⟨rfl, ho, rfl⟩)
    · rw [hostOp_other hb ho] at h; cases h; exact .inr (.inr ⟨rfl, ho, rfl⟩)

theorem hostOp_next (i : Instr) (body : State → State) (s : State) : ∃ t, hostOp i body s = .next t := by
  unfold hostOp; split <;> (try split) <;> exact ⟨_, rfl⟩

/-- An operation without a port, started idle: accepted, then START, then FINISH (10_state.md R32). -/
theorem pureOp_steps {start finish : State → State} (hb : s.busy = false)
    (hs : ∀ u : State, (start u).busy = u.busy ∧ (start u).op = u.op) :
    pureOp i start finish s = .next (s.accept i) ∧
      pureOp i start finish (s.accept i) = .next { start (s.accept i) with phase := .finish } ∧
      pureOp i start finish { start (s.accept i) with phase := .finish } =
        .next (finish { start (s.accept i) with phase := .finish }) := by
  have := hs (s.accept i)
  refine ⟨hostOp_idle hb, hostOp_running rfl rfl, ?_⟩
  exact hostOp_running (by simp [this.1]) (by simp [this.2])

/-- Every instruction answers a next state: no meaning faults or refuses. -/
theorem exec_next (i : Instr) (s : State) : ∃ t, exec i s = .next t := by
  cases i with
  | reqRomver | reqRdmode | reqWrmode | reqInventory | reqBuzzer =>
    simp only [exec, execReqRomver, execReqRdmode, execReqWrmode, execReqInventory, execReqBuzzer,
      emitRequest]
    split <;> exact ⟨_, rfl⟩
  | rspAck | rspNack | rspUid | rspOther =>
    simp only [exec, execRspAck, execRspNack, execRspUid, execRspOther, handleResponse]
    split
    · split
      · exact ⟨_, rfl⟩
      · split <;> exact ⟨_, rfl⟩
    · exact ⟨_, rfl⟩
  | build | validate | lastframe | rbclr | feed | transact | rdfw | rdmode | wrmode | buzzer | inventory
  | decmode | decnack =>
    simp only [exec, execBuild, execValidate, execLastframe, execRbclr, execFeed, execTransact, execRdfw,
      execRdmode, execWrmode, execBuzzer, execInventory, execDecmode, execDecnack, pureOp, exchangeOp]
    exact hostOp_next _ _ _

/-! ### The engine steps TRANSACT and INVENTORY share -/

/-- SEND ends in CHECK, or in FINISH with the write failure recorded (42_transactor.md R173, R174). -/
theorem transmit_cases (b : Bytes) (s : State) :
    (s.env.writeAnswer = true ∧ s.transmit b = { (s.note (.send b)).written b with phase := .check }) ∨
      (s.env.writeAnswer = false ∧ s.transmit b = ((s.note (.send b)).written b).writeFailure) := by
  cases h : s.env.writeAnswer <;> simp [State.transmit, h]

/-- CHECK ends in FINISH at or after the deadline, else in POLL (42_transactor.md R176). -/
theorem checkDeadline_cases (s : State) :
    (s.deadline ≤ s.env.afterNow.clock ∧
      s.checkDeadline =
        { s.sampled.note (.cmt .timeout) with cause := some .timeout, phase := .finish }) ∨
      (s.env.afterNow.clock < s.deadline ∧ s.checkDeadline = { s.sampled with phase := .poll }) := by
  by_cases h : s.deadline ≤ s.env.afterNow.clock
  · exact .inl ⟨h, if_pos h⟩
  · exact .inr ⟨by omega, if_neg h⟩

/-- POLL ends in BACKOFF, or in SCAN with the byte (42_transactor.md R175). -/
theorem pollByte_cases (s : State) :
    (s.env.readAnswer = none ∧ s.pollByte = { s.polled with phase := .backoff }) ∨
      ∃ b, s.env.readAnswer = some b ∧ s.pollByte = { s.polled with rxByte := some b, phase := .scan } := by
  cases h : s.env.readAnswer with
  | none => exact .inl ⟨rfl, by simp [State.pollByte, h]⟩
  | some b => exact .inr ⟨b, rfl, by simp [State.pollByte, h]⟩

end Sys2Proof.Machine
end

