-- ==== Sys2Proof/Laws/Fetch.lean ====
section
/-! SUPPORT. What the fetch finds, one lemma per case of the port and of the operation in progress, and the step that follows from it. -/

namespace Sys2Proof.Machine

variable {s : State} {r : Request} {rest : List Request} {i j : Instr} {bytes f : Bytes} {fs : List Bytes}
  {e : DecodeError}

/-! ### The port -/

/-- The reset input comes first (70_reset_and_hazards.md R313). -/
theorem step_reset (h : s.resetIn = true) : step s = .next s.tick.engineReset := by
  simp [step, fetch, fetchTicked, h]

/-- BUSY is tested before the op code (60_exceptions.md R277 (1)). -/
theorem step_busy_request (h : s.resetIn = false) (hq : s.request = some r) (hb : s.busy = true) :
    step s = .next (State.rejectBusy { s.tick with request := none }) := by
  simp [step, fetch, fetchTicked, h, hq, hb]

/-- A request at the idle port is fetched. -/
theorem fetch_request (h : s.resetIn = false) (hq : s.request = some r) (hb : s.busy = false) :
    fetch s = fetchRequest r { s.tick with request := none } := by
  simp [fetch, fetchTicked, h, hq, hb]

/-- The next request of the program is fetched (00_scope.md R10). -/
theorem fetch_program (h : s.resetIn = false) (hq : s.request = none) (hb : s.busy = false)
    (hp : s.program = r :: rest) : fetch s = fetchRequest r { s.tick with program := rest } := by
  simp [fetch, fetchTicked, fetchIdle, h, hq, hb, hp]

/-- Nothing to do (70_reset_and_hazards.md R312). -/
theorem step_idle (h : s.resetIn = false) (hq : s.request = none) (hb : s.busy = false)
    (hp : s.program = []) : step s = .next s.tick := by
  simp [step, fetch, fetchTicked, fetchIdle, h, hq, hb, hp]

/-- The operation in progress goes on. -/
theorem fetch_busy (h : s.resetIn = false) (hq : s.request = none) (hb : s.busy = true) :
    fetch s = fetchBusy s.tick := by
  simp [fetch, fetchTicked, h, hq, hb]

theorem fetchRequest_ok (h : decode (.host r) = .ok i) : fetchRequest r s = .run i s := by
  simp [fetchRequest, h]

theorem fetchRequest_reserved (h : decode (.host r) = .error .reservedOpCode) :
    fetchRequest r s = .settled s.rejectIllegal := by
  simp [fetchRequest, h]

theorem fetchRequest_refused (h : decode (.host r) = .error e) (he : e ≠ .reservedOpCode) :
    fetchRequest r s = .refused .operandShape := by
  cases e <;> simp_all [fetchRequest]

/-! ### The operation in progress -/

theorem fetchOperation_some (ho : s.op = some i) : fetchOperation s = .run i s := by
  simp [fetchOperation, ho]

/-- Outside SEND and SCAN the operation itself runs. -/
theorem fetchBusy_plain (hs : s.phase ≠ .send) (hc : s.phase ≠ .scan) : fetchBusy s = fetchOperation s := by
  unfold fetchBusy; split <;> simp_all

theorem fetchBusy_send (hp : s.phase = .send) (hr : s.requestBytes = some bytes) :
    fetchBusy s = fetchSend bytes s := by
  simp [fetchBusy, hp, hr]

theorem fetchBusy_send_none (hp : s.phase = .send) (hr : s.requestBytes = none) :
    fetchBusy s = fetchOperation s := by
  simp [fetchBusy, hp, hr]

/-- In SCAN an emitted frame is taken (30_encoding.md R116). -/
theorem fetchBusy_frame (hp : s.phase = .scan) (hx : s.rxByte = none) (ho : s.out = f :: fs) :
    fetchBusy s = fetchFrame f { s with out := fs } := by
  simp [fetchBusy, hp, hx, ho]

/-- In SCAN a waiting byte is fed by the operation itself. -/
theorem fetchBusy_byte (hp : s.phase = .scan) (hx : s.rxByte ≠ none ∨ s.out = []) :
    fetchBusy s = fetchOperation s := by
  simp only [fetchBusy, hp]
  split
  · simp_all
  · rfl

theorem fetchSend_ok (h : decode (.tx bytes) = .ok i) : fetchSend bytes s = .run i s := by
  simp [fetchSend, h]

theorem fetchSend_error (h : decode (.tx bytes) = .error e) :
    fetchSend bytes s = .settled (s.transmit bytes) := by
  simp [fetchSend, h]

theorem fetchFrame_ok (h : decode (.rx f) = .ok i) : fetchFrame f s = .run i s := by
  simp [fetchFrame, h]

/-! ### The step -/

theorem step_run {t : State} (h : fetch s = .run i t) : step s = exec i t := by simp [step, h]

theorem step_settled {t : State} (h : fetch s = .settled t) : step s = .next t := by simp [step, h]

/-- The pulse and the port's answer end, and nothing else does. -/
theorem tick_eq (s : State) : s.tick = { s with done := false, portAnswer := none } := rfl

end Sys2Proof.Machine
end

