-- ==== Sys2Proof/Laws/PerInstr.lean ====
section
/-! SUPPORT. Statements made once per constructor of `Instr`: on which port an instruction is encoded. -/

namespace Sys2Proof.Laws.EncodedPort

/-- A host operation is a request of its table row's op code on the operation port; a frame is a byte sequence on the transmit or the receive stream (30_encoding.md R110, R112). -/
def Statement (i : Instr) : Prop :=
  (i.isHostOp = true → ∃ r, encode i = .host r ∧ r.opCode.toNat = i.tableRow.1) ∧
    (i.isHostOp = false → ∃ f, encode i = .tx f ∨ encode i = .rx f)

theorem build (addr : Byte) (cmd : Byte) (payload : Bytes) : Statement (.build addr cmd payload) :=
  ⟨fun _ => ⟨_, rfl, rfl⟩, nofun⟩

theorem validate (bytes : Bytes) : Statement (.validate bytes) :=
  ⟨fun _ => ⟨_, rfl, rfl⟩, nofun⟩

theorem lastframe (bytes : Bytes) : Statement (.lastframe bytes) :=
  ⟨fun _ => ⟨_, rfl, rfl⟩, nofun⟩

theorem rbclr : Statement (.rbclr) :=
  ⟨fun _ => ⟨_, rfl, rfl⟩, nofun⟩

theorem feed (b : Byte) : Statement (.feed b) :=
  ⟨fun _ => ⟨_, rfl, rfl⟩, nofun⟩

theorem transact (cmdBytes : Bytes) (budgetMs : Nat) (stop : Bool) : Statement (.transact cmdBytes budgetMs stop) :=
  ⟨fun _ => ⟨_, rfl, rfl⟩, nofun⟩

theorem rdfw (budgetMs : Nat) : Statement (.rdfw budgetMs) :=
  ⟨fun _ => ⟨_, rfl, rfl⟩, nofun⟩

theorem rdmode (budgetMs : Nat) : Statement (.rdmode budgetMs) :=
  ⟨fun _ => ⟨_, rfl, rfl⟩, nofun⟩

theorem wrmode (budgetMs : Nat) : Statement (.wrmode budgetMs) :=
  ⟨fun _ => ⟨_, rfl, rfl⟩, nofun⟩

theorem buzzer (responseType : Byte) (soundType : Byte) (budgetMs : Nat) : Statement (.buzzer responseType soundType budgetMs) :=
  ⟨fun _ => ⟨_, rfl, rfl⟩, nofun⟩

theorem inventory (budgetMs : Nat) : Statement (.inventory budgetMs) :=
  ⟨fun _ => ⟨_, rfl, rfl⟩, nofun⟩

theorem decmode (raw : Bytes) : Statement (.decmode raw) :=
  ⟨fun _ => ⟨_, rfl, rfl⟩, nofun⟩

theorem decnack (frame : Bytes) : Statement (.decnack frame) :=
  ⟨fun _ => ⟨_, rfl, rfl⟩, nofun⟩

theorem reqRomver (addr : Byte) : Statement (.reqRomver addr) :=
  ⟨nofun, fun _ => ⟨_, .inl rfl⟩⟩

theorem reqRdmode (addr : Byte) : Statement (.reqRdmode addr) :=
  ⟨nofun, fun _ => ⟨_, .inl rfl⟩⟩

theorem reqWrmode (addr : Byte) (targetRam : Byte) (flags : Byte) : Statement (.reqWrmode addr targetRam flags) :=
  ⟨nofun, fun _ => ⟨_, .inl rfl⟩⟩

theorem reqInventory (addr : Byte) (extra : Bytes) : Statement (.reqInventory addr extra) :=
  ⟨nofun, fun _ => ⟨_, .inl rfl⟩⟩

theorem reqBuzzer (addr : Byte) (responseType : Byte) (soundType : Byte) : Statement (.reqBuzzer addr responseType soundType) :=
  ⟨nofun, fun _ => ⟨_, .inl rfl⟩⟩

theorem rspAck (addr : Byte) (payload : Bytes) : Statement (.rspAck addr payload) :=
  ⟨nofun, fun _ => ⟨_, .inr rfl⟩⟩

theorem rspNack (addr : Byte) (payload : Bytes) : Statement (.rspNack addr payload) :=
  ⟨nofun, fun _ => ⟨_, .inr rfl⟩⟩

theorem rspUid (addr : Byte) (payload : Bytes) : Statement (.rspUid addr payload) :=
  ⟨nofun, fun _ => ⟨_, .inr rfl⟩⟩

theorem rspOther (addr : Byte) (cmd : Byte) (payload : Bytes) : Statement (.rspOther addr cmd payload) :=
  ⟨nofun, fun _ => ⟨_, .inr rfl⟩⟩

end Sys2Proof.Laws.EncodedPort
end

