-- ==== Sys2Proof/Laws/Race.lean ====
section
/-! SUPPORT. A check point of the termination race does one of two things (44_inventory.md R226, R228). -/

namespace Sys2Proof.Machine

/-- `DONE()` has no effect but a sample of the time. -/
theorem afterDone_eq (s : State) : s.afterDone = s ∨ s.afterDone = s.sampled := by
  unfold State.afterDone; split
  · exact .inr rfl
  · exact .inl rfl

/-- A check point leaves the loop, or goes on with it; beside that only the time is sampled. -/
theorem raceCheck_cases (s : State) :
    (s.isDone = true ∧ s.raceCheck = s.afterDone.leaveLoop .collected) ∨
      (s.isDone = false ∧ s.raceCheck = s.afterDone.continueScan) := by
  cases h : s.isDone
  · exact .inr ⟨rfl, by simp [State.raceCheck, h]⟩
  · exact .inl ⟨rfl, by simp [State.raceCheck, h]⟩

end Sys2Proof.Machine
end

