-- ==== Sys2Proof/Laws/Run.lean ====
section
/-! SUPPORT. Runs of several steps: one step taken off the front, and two runs joined. -/

namespace Sys2Proof.Machine

variable {s t : State} {n m : Nat}

@[simp] theorem run_zero (s : State) : Host.Core.run Sys2Proof.core 0 s = .next s := rfl

theorem run_succ (h : step s = .next t) :
    Host.Core.run Sys2Proof.core (n + 1) s = Host.Core.run Sys2Proof.core n t := by
  have h' : Sys2Proof.core.step s = .next t := h
  simp only [Host.Core.run]; rw [h']

/-- A run of `n + 1` steps that ends took its first step. -/
theorem run_succ_cases (h : Host.Core.run Sys2Proof.core (n + 1) s = .next t) :
    ∃ u, step s = .next u ∧ Host.Core.run Sys2Proof.core n u = .next t := by
  cases hs : Sys2Proof.core.step s with
  | next u => exact ⟨u, hs, by rw [← run_succ (show step s = .next u from hs)]; exact h⟩
  | fault r => simp only [Host.Core.run] at h; rw [hs] at h; cases h
  | refused r => simp only [Host.Core.run] at h; rw [hs] at h; cases h

/-- Runs join. -/
theorem run_add (h : Host.Core.run Sys2Proof.core n s = .next t) :
    Host.Core.run Sys2Proof.core (n + m) s = Host.Core.run Sys2Proof.core m t := by
  induction n generalizing s with
  | zero => rw [run_zero] at h; cases h; simp
  | succ n ih =>
    obtain ⟨u, hs, hu⟩ := run_succ_cases h
    rw [Nat.add_right_comm, run_succ hs, ih hu]

end Sys2Proof.Machine
end

