-- ==== Sys2Proof/Laws/Scan.lean ====
section
/-! SUPPORT. The loop of FEED: one turn of it, and that its fuel is never used up (41_reassembler.md R152, R159). -/

namespace Sys2Proof.Machine

/-- One turn of the loop. -/
theorem scanBuffer_succ (c : Bool) (n : Nat) (rb : Bytes) :
    scanBuffer c (n + 1) rb =
      (let r := rb.dropWhile (· != Config.stx)
      if r.length < 4 then (r, [])
      else if r.length < needOf r then (r, [])
      else if validateFrame c (r.take (needOf r)) then
        let rest := scanBuffer c n (r.drop (needOf r))
        (rest.1, r.take (needOf r) :: rest.2)
      else scanBuffer c n (r.drop 1)) := rfl

theorem length_dropWhile_stx_le (rb : Bytes) :
    (rb.dropWhile (· != Config.stx)).length ≤ rb.length :=
  (List.dropWhile_suffix _).length_le

theorem dropWhile_of_stx {rb : Bytes} (h : byteAt rb 0 = Config.stx) :
    rb.dropWhile (· != Config.stx) = rb := by
  cases rb with
  | nil => simp
  | cons b rb => simp at h; rw [List.dropWhile_cons]; simp [h]

/-- Any fuel above the buffer's length gives the same answer. -/
theorem scanBuffer_fuel (c : Bool) :
    ∀ (n m : Nat) (rb : Bytes), rb.length < n → rb.length < m → scanBuffer c n rb = scanBuffer c m rb := by
  intro n
  induction n with
  | zero => intro m rb h; omega
  | succ n ih =>
    intro m rb h h'
    cases m with
    | zero => omega
    | succ m =>
      rw [scanBuffer_succ, scanBuffer_succ]
      have hl := length_dropWhile_stx_le rb
      have hn := needOf_bounds (rb.dropWhile (· != Config.stx))
      dsimp only
      split
      · rfl
      split
      · rfl
      split
      · rw [ih m _ (by rw [List.length_drop]; omega) (by rw [List.length_drop]; omega)]
      · exact ih m _ (by rw [List.length_drop]; omega) (by rw [List.length_drop]; omega)

theorem scanBuffer_eq_scanAll (c : Bool) (n : Nat) (rb : Bytes) (h : rb.length < n) :
    scanBuffer c n rb = scanAll c rb :=
  scanBuffer_fuel c _ _ rb h (by omega)

end Sys2Proof.Machine
end

