-- ==== Sys2Proof/Tests/Slice0.lean ====
section
/-! SUPPORT. Tests: ill-formed terms, words written out from the spec's encodings, single steps with the results of spec/95_test_vectors.md, and for each statement with hypotheses a concrete input that meets them. -/

namespace Sys2Proof.Tests

open Sys2Proof Sys2Proof.Machine

/-! ### A small machine: parameters at the defaults of 95_test_vectors.md -/

/-- The default parameters, with nine names for the keys 0x01 to 0x09. -/
def cfg : Cfg where
  addr := 0x00
  pollMs := 10
  backoffMs := 1
  silenceMs := 120
  targetRam := 0x00
  invReqExtra := []
  modeNames :=
    [(0, .commandMode), (1, .listed 1), (2, .listed 2), (3, .listed 3), (4, .listed 4), (5, .listed 5),
      (6, .listed 6), (7, .listed 7), (8, .listed 8), (9, .listed 9)]
  buzzerSetMeansOn := true
  checksStx := false

/-- A machine with scripted answers. -/
def idle : State :=
  { State.reset with
    cfg := cfg
    env := { Env.initial with nowQ := [7, 0, 0], writeQ := [true], readQ := [some 0x02, none] } }

/-- Operation `i` in progress at `ph`. -/
def running (i : Instr) (ph : Phase) : State := { idle with busy := true, op := some i, phase := ph }

/-- The next state, if there is one. -/
def after : Host.Outcome State Fault Refusal → Option State
  | .next s => some s
  | _ => none

def ack : Bytes := [0x02, 0x00, 0x30, 0x00, 0x03, 0x35, 0x0D]
def nackSum : Bytes := [0x02, 0x00, 0x31, 0x01, 0x42, 0x03, 0x79, 0x0D]
def nackFmt : Bytes := [0x02, 0x00, 0x31, 0x01, 0x44, 0x03, 0x7B, 0x0D]
def nackOther : Bytes := [0x02, 0x00, 0x31, 0x01, 0x43, 0x03, 0x7A, 0x0D]
def nackBare : Bytes := [0x02, 0x00, 0x31, 0x00, 0x03, 0x36, 0x0D]
def version : Bytes := [0x02, 0x00, 0x30, 0x05, 0x90, 0x32, 0x30, 0x33, 0x34, 0x03, 0x93, 0x0D]
def mode : Bytes := [0x02, 0x00, 0x30, 0x05, 0x00, 0x00, 0x00, 0x1C, 0xC0, 0x03, 0x16, 0x0D]
def tag1 : Bytes :=
  [0x02, 0x00, 0x49, 0x09, 0x00, 0x01, 0x02, 0x03, 0x04, 0x05, 0x06, 0x07, 0xE0, 0x03, 0x53, 0x0D]
def emptyTag : Bytes := [0x02, 0x00, 0x49, 0x00, 0x03, 0x4E, 0x0D]
def item1 : Item := ⟨#v[0xE0, 0x07, 0x06, 0x05, 0x04, 0x03, 0x02, 0x01], 0x00⟩

/-! ### Well-formedness: one ill-formed term for each check -/

/-- `n` bytes of zero. -/
def zeros (n : Nat) : Bytes := List.replicate n 0

theorem length_zeros (n : Nat) : (zeros n).length = n := List.length_replicate

theorem payloadFits_zeros (n : Nat) : payloadFits (zeros n) = decide (n ≤ 255) := by
  rw [payloadFits, length_zeros]

theorem test_wf_build_payload :
    (Instr.build 0 0 (zeros 256)).wf = false ∧ (Instr.build 0 0 (zeros 255)).wf = true :=
  ⟨payloadFits_zeros 256, payloadFits_zeros 255⟩
theorem test_wf_reqInventory_extra_255 : (Instr.reqInventory 0 (zeros 255)).wf = false := by
  rw [Instr.wf, length_zeros]; rfl
theorem test_wf_rspAck_payload_256 : (Instr.rspAck 0 (zeros 256)).wf = false := payloadFits_zeros 256
theorem test_wf_rspNack_payload_256 : (Instr.rspNack 0 (zeros 256)).wf = false := payloadFits_zeros 256
theorem test_wf_rspUid_payload_256 : (Instr.rspUid 0 (zeros 256)).wf = false := payloadFits_zeros 256
theorem test_wf_rspOther_payload_256 : (Instr.rspOther 0 0x55 (zeros 256)).wf = false := by
  rw [Instr.wf, payloadFits_zeros]; rfl
theorem test_wf_rspOther_classified :
    (Instr.rspOther 0 0x30 []).wf = false ∧ (Instr.rspOther 0 0x31 []).wf = false ∧
      (Instr.rspOther 0 0x49 []).wf = false ∧ (Instr.rspOther 0 0x55 []).wf = true := by decide

/-! ### Decoding: requests and frames written out from 30_encoding.md R95 to R112 -/

theorem test_decode_build :
    decode (.host ⟨0x1, [.byte 0x05, .byte 0x42, .bytes [0xFF, 0xFF]]⟩) = .ok (.build 0x05 0x42 [0xFF, 0xFF]) :=
  rfl
theorem test_decode_validate : decode (.host ⟨0x2, [.bytes [0x02]]⟩) = .ok (.validate [0x02]) := rfl
theorem test_decode_lastframe : decode (.host ⟨0x3, [.bytes []]⟩) = .ok (.lastframe []) := rfl
theorem test_decode_rbclr : decode (.host ⟨0x4, []⟩) = .ok .rbclr := rfl
theorem test_decode_feed : decode (.host ⟨0x5, [.byte 0x0D]⟩) = .ok (.feed 0x0D) := rfl
theorem test_decode_transact :
    decode (.host ⟨0x6, [.bytes [], .nat 0, .flag false]⟩) = .ok (.transact [] 0 false) := rfl
theorem test_decode_rdfw : decode (.host ⟨0x7, [.nat 500]⟩) = .ok (.rdfw 500) := rfl
theorem test_decode_rdmode : decode (.host ⟨0x8, [.nat 500]⟩) = .ok (.rdmode 500) := rfl
theorem test_decode_wrmode : decode (.host ⟨0x9, [.nat 500]⟩) = .ok (.wrmode 500) := rfl
theorem test_decode_buzzer :
    decode (.host ⟨0xA, [.byte 0x01, .byte 0x00, .nat 300]⟩) = .ok (.buzzer 0x01 0x00 300) := rfl
theorem test_decode_inventory : decode (.host ⟨0xB, [.nat 1000]⟩) = .ok (.inventory 1000) := rfl
theorem test_decode_decmode :
    decode (.host ⟨0xC, [.bytes [0x50, 0x00, 0x2C, 0x40]]⟩) = .ok (.decmode [0x50, 0x00, 0x2C, 0x40]) := rfl
theorem test_decode_decnack : decode (.host ⟨0xD, [.bytes nackFmt]⟩) = .ok (.decnack nackFmt) := rfl
theorem test_decode_reqRomver :
    decode (.tx [0x02, 0x00, 0x4F, 0x01, 0x90, 0x03, 0xE5, 0x0D]) = .ok (.reqRomver 0x00) := rfl
theorem test_decode_reqRdmode :
    decode (.tx [0x02, 0x00, 0x4F, 0x01, 0x00, 0x03, 0x55, 0x0D]) = .ok (.reqRdmode 0x00) := rfl
theorem test_decode_reqWrmode :
    decode (.tx [0x02, 0x00, 0x4E, 0x07, 0x01, 0x00, 0x00, 0x2C, 0x00, 0x00, 0x00, 0x03, 0x87, 0x0D]) =
      .ok (.reqWrmode 0x00 0x01 0x2C) := rfl
theorem test_decode_reqInventory :
    decode (.tx [0x02, 0x03, 0x78, 0x03, 0xF0, 0x01, 0x02, 0x03, 0x76, 0x0D]) =
      .ok (.reqInventory 0x03 [0x01, 0x02]) := rfl
theorem test_decode_reqBuzzer :
    decode (.tx [0x02, 0x05, 0x42, 0x02, 0xFF, 0x09, 0x03, 0x56, 0x0D]) = .ok (.reqBuzzer 0x05 0xFF 0x09) := rfl
theorem test_decode_rspAck :
    decode (.rx version) = .ok (.rspAck 0x00 [0x90, 0x32, 0x30, 0x33, 0x34]) := rfl
theorem test_decode_rspNack :
    decode (.rx [0x02, 0x07, 0x31, 0x01, 0x00, 0x03, 0x3E, 0x0D]) = .ok (.rspNack 0x07 [0x00]) := rfl
theorem test_decode_rspUid :
    decode (.rx tag1) = .ok (.rspUid 0x00 [0x00, 0x01, 0x02, 0x03, 0x04, 0x05, 0x06, 0x07, 0xE0]) := rfl
theorem test_decode_rspOther :
    decode (.rx [0x02, 0x00, 0x55, 0x01, 0x01, 0x03, 0x5C, 0x0D]) = .ok (.rspOther 0x00 0x55 [0x01]) := rfl

/-- 30_encoding.md R113. -/
theorem test_decode_reserved :
    decode (.host ⟨0x0, []⟩) = .error .reservedOpCode ∧ decode (.host ⟨0xE, [.nat 1]⟩) = .error .reservedOpCode ∧
      decode (.host ⟨0xF, []⟩) = .error .reservedOpCode := ⟨rfl, rfl, rfl⟩
theorem test_decode_misshapen : decode (.host ⟨0x7, []⟩) = .error .operandShape := rfl
/-- A wrong checksum, a request with a detail code no row has, a frame without STX. -/
theorem test_decode_frames_rejected :
    decode (.rx [0x02, 0x00, 0x30, 0x00, 0x03, 0x36, 0x0D]) = .error .notAFrame ∧
      decode (.tx [0x02, 0x00, 0x4F, 0x01, 0x91, 0x03, 0xE6, 0x0D]) = .error .unknownRequest ∧
      decode (.rx [0x55, 0x00, 0x30, 0x00, 0x03, 0x88, 0x0D]) = .error .notAFrame := ⟨rfl, rfl, rfl⟩

/-- The `match` words of the nine FRAME rows (30_encoding.md R116). -/
theorem test_table_words_of_frames :
    decodeTableWord 40 0x02004F0190 = some (.reqRomver 0) ∧ decodeTableWord 40 0x02004F0100 = some (.reqRdmode 0) ∧
      decodeTableWord 40 0x02004E0700 = some (.reqWrmode 0 0 0) ∧
      decodeTableWord 40 0x02007801F0 = some (.reqInventory 0 []) ∧
      decodeTableWord 40 0x0200420200 = some (.reqBuzzer 0 0 0) ∧ decodeTableWord 40 0x0200300000 = some (.rspAck 0 []) ∧
      decodeTableWord 40 0x0200310000 = some (.rspNack 0 []) ∧ decodeTableWord 40 0x0200490000 = some (.rspUid 0 []) ∧
      decodeTableWord 40 0x0200550000 = some (.rspOther 0 0x55 []) :=
  ⟨rfl, rfl, rfl, rfl, rfl, rfl, rfl, rfl, rfl⟩

/-- A word of the table is run by the first step after reset: TRANSACT is accepted, REQ_BUZZER is written, RSP_ACK is accumulated. -/
theorem test_table_words_run :
    (after (step (State.reset.withFetchWord 8 0x6))).map State.op = some (some (.transact [] 0 false)) ∧
      (after (step (State.reset.withFetchWord 40 0x0200420200))).map State.trace =
        (after (exec (.reqBuzzer 0 0 0) (State.reset.withFetchWord 40 0x0200420200))).map State.trace ∧
      (after (step (State.reset.withFetchWord 40 0x0200300000))).map State.acc = some ack :=
  ⟨rfl, rfl, rfl⟩

/-! ### Single steps, with the results of 95_test_vectors.md -/

/-- Section 2.1, rows 6 and 7. -/
theorem test_build_wraps_the_checksum :
    (after (exec (.build 0x05 0x42 [0xFF, 0xFF]) (running (.build 0x05 0x42 [0xFF, 0xFF]) .finish))).map
      State.resBytes = some [0x02, 0x05, 0x42, 0x02, 0xFF, 0xFF, 0x03, 0x4C, 0x0D] := by decide
theorem test_build_empty_payload :
    (after (exec (.build 0xFF 0xFF []) (running (.build 0xFF 0xFF []) .finish))).map
      State.resBytes = some [0x02, 0xFF, 0xFF, 0x00, 0x03, 0x03, 0x0D] := by decide

/-- Section 2.2: byte 0 is not tested by default. -/
theorem test_validate_ignores_byte_0 :
    (after (exec (.validate [0x55, 0x00, 0x30, 0x00, 0x03, 0x88, 0x0D])
      (running (.validate [0x55, 0x00, 0x30, 0x00, 0x03, 0x88, 0x0D]) .finish))).map State.resBool =
      some true := by decide
theorem test_validate_checks_the_length :
    (after (exec (.validate [0x02, 0x00, 0x30, 0x01, 0x03, 0x36, 0x0D])
      (running (.validate [0x02, 0x00, 0x30, 0x01, 0x03, 0x36, 0x0D]) .finish))).map State.resBool =
      some false := by decide

/-- Section 2.3: an incomplete last frame is not seen; three bytes hold no frame. -/
theorem test_lastframe_stops_at_an_incomplete_step :
    (after (exec (.lastframe (emptyTag ++ ack ++ [0x02, 0x00, 0x49, 0x09, 0x00]))
      (running (.lastframe (emptyTag ++ ack ++ [0x02, 0x00, 0x49, 0x09, 0x00])) .finish))).map
      (fun t => (t.resBool, t.resBytes)) = some (true, ack) := by decide
theorem test_lastframe_none :
    (after (exec (.lastframe [0x02, 0x00, 0x30]) (running (.lastframe [0x02, 0x00, 0x30]) .finish))).map
      (fun t => (t.resBool, t.resBytes)) = some (false, []) := by decide

/-- Section 2.4, RBCLR after F5. -/
theorem test_rbclr :
    (after (exec .rbclr { running .rbclr .start with rb := [0x02, 0x00, 0x30, 0x05, 0x90, 0x32, 0x30] })).map
      State.rb = some [] := by decide

/-- Section 2.4, F3 at byte 7 and F10 at byte 9: what the corrupted candidate leaves. -/
theorem test_feed_drops_a_corrupted_frame :
    (after (exec (.feed 0x0D) { running (.feed 0x0D) .start with rb := [0x02, 0x00, 0x30, 0x00, 0x03, 0x36] })).map
      (fun t => (t.rb, t.out)) = some ([], []) := by decide
theorem test_feed_resynchronises_at_an_inner_stx :
    (after (exec (.feed 0x0D)
      { running (.feed 0x0D) .start with rb := [0x02, 0x00, 0x30, 0x02, 0x02, 0x05, 0x03, 0x40] })).map
      (fun t => (t.rb, t.out)) = some ([0x02, 0x02, 0x05, 0x03, 0x40, 0x0D], []) := by decide

/-- Section 2.5, T11: the deadline of a TRANSACT started at 1000 with budget 500; T6: budget 0 ends at the first test. -/
theorem test_transact_deadline :
    (after (exec (.transact ack 500 true)
      { running (.transact ack 500 true) .start with env := { idle.env with clock := 993 } })).map
      State.deadline = some 1500 := by decide
theorem test_transact_zero_budget :
    (after (exec (.transact ack 0 true)
      { running (.transact ack 0 true) .check with deadline := 7 })).map
      (fun t => (t.phase, t.cause, t.trace)) = some (.finish, some .timeout, [.cmt .timeout]) := by decide

/-- Section 2.6, C1 "2.03 4" and C3. -/
theorem test_rdfw_reformats :
    (after (exec (.rdfw 500) { running (.rdfw 500) .finish with acc := version, cause := some .terminal })).map
      (fun t => (t.resStatus, t.resBytes)) = some (.ok, [0x32, 0x2E, 0x30, 0x33, 0x20, 0x34]) := by decide
theorem test_rdfw_filters :
    (after (exec (.rdfw 500) { running (.rdfw 500) .finish with
      acc := [0x02, 0x00, 0x30, 0x0A, 0x90, 0x00, 0x56, 0x31, 0x2E, 0x32, 0x33, 0xFF, 0x41, 0x0A, 0x03, 0x33, 0x0D]
      cause := some .terminal })).map State.resBytes =
      some [0x56, 0x2E, 0x31, 0x2E, 0x20, 0x32, 0x33, 0x41] := by decide

/-- Section 2.6, M1 and M4. -/
theorem test_rdmode_captures :
    (after (exec (.rdmode 300) { running (.rdmode 300) .finish with acc := mode, cause := some .terminal })).map
      (fun t => (t.resStatus, t.modeRaw)) = some (.ok, [0x00, 0x00, 0x1C, 0xC0]) := by decide
theorem test_rdmode_keeps_on_a_wrong_detail :
    (after (exec (.rdmode 300) { running (.rdmode 300) .finish with
      acc := version, cause := some .terminal, modeRaw := [0x01, 0x00, 0x1C, 0xC0] })).map
      (fun t => (t.resStatus, t.modeRaw)) = some (.failBadresp, [0x01, 0x00, 0x1C, 0xC0]) := by decide

/-- Section 2.6, W1b and W5. -/
theorem test_wrmode_precondition :
    (after (exec (.wrmode 300) { running (.wrmode 300) .start with modeRaw := [0x00, 0x00, 0x1C] })).map
      (fun t => (t.cause, t.env, t.trace)) = some (some .precond, idle.env, [.cmt .precond]) := by decide
theorem test_wrmode_writes_the_captured_flags :
    (after (exec (.wrmode 300) { running (.wrmode 300) .send with
      modeRaw := [0x50, 0x00, 0x2C, 0x40], cfg := { cfg with targetRam := 0x01 } })).map
      (fun t => (t.phase, t.env.calls)) =
      some (.check, [.write
        [0x02, 0x00, 0x4E, 0x07, 0x01, 0x00, 0x00, 0x2C, 0x00, 0x00, 0x00, 0x03, 0x87, 0x0D] true]) := by decide

/-- Section 2.6, B3: a NACK without a code; the request of B3. -/
theorem test_buzzer_bare_nack :
    (after (exec (.buzzer 0xFF 0x09 300) { running (.buzzer 0xFF 0x09 300) .finish with
      acc := nackBare, cause := some .terminal })).map
      (fun t => (t.resStatus, t.resNack)) = some (.nackUnknown, ⟨.unknown, none⟩) := by decide
theorem test_buzzer_request :
    (after (exec (.buzzer 0xFF 0x09 300) { running (.buzzer 0xFF 0x09 300) .send with
      cfg := { cfg with addr := 0x05 } })).map State.trace =
      some [.send [0x02, 0x05, 0x42, 0x02, 0xFF, 0x09, 0x03, 0x56, 0x0D]] := by decide

/-- Section 2.7, I3b (a count but no item) and I18 (the silence at an idle check point, 151 - 30 = 121). -/
theorem test_inventory_no_empty_success :
    (after (exec (.inventory 200) { running (.inventory 200) .finish with
      expected := 3, cause := some .timeout })).map (fun t => (t.err, t.resStatus, t.expected)) =
      some (.noTags, .noTags, 3) := by decide
theorem test_inventory_silence :
    (after (exec (.inventory 1000) { running (.inventory 1000) .backoff with
      items := [item1], haveUid := true, lastRx := 30, env := { idle.env with clock := 144 } })).map
      (fun t => (t.phase, t.cause)) = some (.finish, some .collected) := by decide

/-- Section 2.8, row 1 (90_conflicts.md C1, C2) and row 9. -/
theorem test_decmode :
    (after (exec (.decmode [0x00, 0x00, 0x1C, 0x40]) (running (.decmode [0x00, 0x00, 0x1C, 0x40]) .finish))).map
      State.resPretty = some ⟨.named .commandMode, .enabled, .continuous, .on, .userDataOnly, .b9600⟩ := by decide
theorem test_decmode_unknown_mode :
    (after (exec (.decmode [0x7F, 0x00, 0x04, 0x3F]) (running (.decmode [0x7F, 0x00, 0x04, 0x3F]) .finish))).map
      State.resPretty = some ⟨.unknown 0x7F, .enabled, .singleShot, .off, .userDataOnly, .b19200⟩ := by decide

/-- Section 2.9, rows 6 and 7. -/
theorem test_decnack_first_byte_only :
    (after (exec (.decnack [0x02, 0x00, 0x31, 0x02, 0x42, 0x44, 0x03, 0xBE, 0x0D])
      (running (.decnack [0x02, 0x00, 0x31, 0x02, 0x42, 0x44, 0x03, 0xBE, 0x0D]) .finish))).map
      State.resNack = some ⟨.sum, some 0x42⟩ := by decide
theorem test_decnack_of_an_ack :
    (after (exec (.decnack [0x02, 0x00, 0x30, 0x01, 0x42, 0x03, 0x78, 0x0D])
      (running (.decnack [0x02, 0x00, 0x30, 0x01, 0x42, 0x03, 0x78, 0x0D]) .finish))).map
      State.resNack = some ⟨.invalid, none⟩ := by decide

/-- The written bytes are those of section 2.1. -/
theorem test_requests_are_written :
    (after (exec (.reqRomver 0) (running (.rdfw 0) .send))).map State.trace =
        some [.send [0x02, 0x00, 0x4F, 0x01, 0x90, 0x03, 0xE5, 0x0D]] ∧
      (after (exec (.reqRdmode 0) (running (.rdmode 0) .send))).map State.trace =
        some [.send [0x02, 0x00, 0x4F, 0x01, 0x00, 0x03, 0x55, 0x0D]] ∧
      (after (exec (.reqWrmode 0 0 0x1C) (running (.wrmode 0) .send))).map State.trace =
        some [.send [0x02, 0x00, 0x4E, 0x07, 0x00, 0x00, 0x00, 0x1C, 0x00, 0x00, 0x00, 0x03, 0x76, 0x0D]] ∧
      (after (exec (.reqInventory 3 [1, 2]) (running (.inventory 0) .send))).map State.trace =
        some [.send [0x02, 0x03, 0x78, 0x03, 0xF0, 0x01, 0x02, 0x03, 0x76, 0x0D]] ∧
      (after (exec (.reqBuzzer 0 1 0) (running (.buzzer 1 0 0) .send))).map State.trace =
        some [.send [0x02, 0x00, 0x42, 0x02, 0x01, 0x00, 0x03, 0x4A, 0x0D]] := by decide

/-- Section 2.7, I1: the count, then the first of two records. -/
theorem test_rspAck_announces_the_count :
    (after (exec (.rspAck 0 [0xF0, 0x02]) (running (.inventory 1000) .scan))).map
      (fun t => (t.expected, t.phase, t.trace)) =
      some (2, .check, [.recv [0x02, 0x00, 0x30, 0x02, 0xF0, 0x02, 0x03, 0x29, 0x0D]]) := by decide
theorem test_rspUid_reverses_the_uid :
    (after (exec (.rspUid 0 [0x00, 0x01, 0x02, 0x03, 0x04, 0x05, 0x06, 0x07, 0xE0])
      { running (.inventory 1000) .scan with expected := 1 })).map (fun t => (t.items, t.haveUid, t.cause)) =
      some ([item1], true, some .collected) := by decide

/-- Section 2.7, I9 (LEN 8 is no record) and I4 (a NACK keeps the items). -/
theorem test_rspUid_needs_nine_bytes :
    (after (exec (.rspUid 0 [0x00, 0x01, 0x02, 0x03, 0x04, 0x05, 0x06, 0x07])
      { running (.inventory 1000) .scan with expected := 1 })).map (fun t => (t.items, t.haveUid, t.cause)) =
      some ([], false, none) := by decide
theorem test_rspNack_ends_the_inventory :
    (after (exec (.rspNack 0 [0x42]) { running (.inventory 1000) .scan with items := [item1], haveUid := true })).map
      (fun t => (t.err, t.items, t.cause)) = some (.nackSum, [item1], some .nack) := by decide

/-- Section 2.5, T4: a frame that is no acknowledgment is accumulated; T9: the frames after a terminal one are dropped. -/
theorem test_rspUid_is_accumulated :
    (after (exec (.rspUid 0 []) (running (.transact [] 500 true) .scan))).map
      (fun t => (t.acc, t.phase, t.cause)) = some (emptyTag, .check, none) := by decide
theorem test_rspAck_ends_the_exchange :
    (after (exec (.rspAck 0 []) { running (.transact [] 500 true) .scan with out := [version] })).map
      (fun t => (t.acc, t.out, t.cause)) = some (ack, [], some .terminal) := by decide
/-- Section 2.7, I14: an unknown command is traced and ignored. -/
theorem test_rspOther_is_ignored_by_inventory :
    (after (exec (.rspOther 0 0x55 [0x01]) (running (.inventory 1000) .scan))).map
      (fun t => (t.items, t.expected, t.trace)) =
      some ([], -1, [.recv [0x02, 0x00, 0x55, 0x01, 0x01, 0x03, 0x5C, 0x0D]]) := by decide

/-! ### Witnesses: for each statement with hypotheses a concrete input that meets them, at the boundary values of its clauses -/

/-- A run of an operation in progress meets the invariant, whatever frames it has received. -/
theorem running_inv {i : Instr} {ph : Phase} {out acc : List Bytes} (hi : i.isHostOp = true ∧ i.wf = true)
    (hp : i.isPure = false) (hph : ph ≠ .idle) (ho : ∀ f ∈ out, IsFrame f) (ha : ∀ f ∈ acc, IsFrame f)
    (hs : out ≠ [] → ph = .scan) :
    State.Inv { running i ph with out := out, acc := acc.flatten } where
  cfg := (by decide : cfg.WF)
  busyPhase := ⟨fun _ => hph, fun _ => rfl⟩
  busyOp := ⟨fun _ => rfl, fun _ => rfl⟩
  opHost := fun j h => by cases h; exact hi
  purePhase := fun j h hj => by cases h; rw [hp] at hj; cases hj
  rb := .inl rfl
  acc := ⟨acc, ha, rfl⟩
  out := ho
  rxByte := fun h => absurd rfl h
  outPhase := fun h => .inl (hs h)
  haveUid := (by decide : idle.haveUid = true ↔ 1 ≤ idle.items.length)
  expected := (by decide : -1 ≤ idle.expected ∧ idle.expected ≤ 255)
  modeRaw := (by decide : idle.modeRaw.length ≤ 254)

theorem isFrame_ack : IsFrame ack := rfl
theorem isFrame_nacks : IsFrame nackSum ∧ IsFrame nackFmt ∧ IsFrame nackOther ∧ IsFrame nackBare :=
  ⟨rfl, rfl, rfl, rfl⟩
theorem isFrame_answers : IsFrame version ∧ IsFrame mode ∧ IsFrame tag1 ∧ IsFrame emptyTag :=
  ⟨rfl, rfl, rfl, rfl⟩

/-- RDFW in SEND, and TRANSACT with an emitted ACK. -/
def sending : State := running (.rdfw 500) .send
def scanning : State := { running (.transact [] 500 true) .scan with out := [ack] }

theorem sending_inv : sending.Inv :=
  running_inv (out := []) (acc := []) ⟨rfl, rfl⟩ rfl nofun nofun nofun (fun h => absurd rfl h)
theorem scanning_inv : scanning.Inv :=
  running_inv (out := [ack]) (acc := []) ⟨rfl, rfl⟩ rfl nofun
    (by intro f hf; rw [List.mem_singleton] at hf; subst hf; rfl) nofun (fun _ => rfl)

/-- A request at the port of the idle machine, and one in its program. -/
def asked (r : Request) : State := { idle with request := some r }
def programmed (r : Request) : State := { idle with program := [r] }

theorem witness_StepRunsPresentedRequest :
    (asked ⟨0x7, [.nat 500]⟩).resetIn = false ∧ (asked ⟨0x7, [.nat 500]⟩).busy = false ∧
      (asked ⟨0x7, [.nat 500]⟩).request = some ⟨0x7, [.nat 500]⟩ ∧
      (programmed ⟨0x7, [.nat 500]⟩).request = none ∧
      (programmed ⟨0x7, [.nat 500]⟩).program = ⟨0x7, [.nat 500]⟩ :: [] ∧
      decode (.host ⟨0x7, [.nat 500]⟩) = .ok (.rdfw 500) :=
  ⟨rfl, rfl, rfl, rfl, rfl, rfl⟩

theorem witness_StepContinuesTheOperation :
    (idle.resetIn = false ∧ idle.request = none ∧ idle.busy = false ∧ idle.program = []) ∧
      (running (.rdfw 500) .start).busy = true ∧ (running (.rdfw 500) .start).op = some (.rdfw 500) ∧
      sending.busy = true ∧ sending.phase = .send ∧
      sending.requestBytes = some [0x02, 0x00, 0x4F, 0x01, 0x90, 0x03, 0xE5, 0x0D] ∧
      decode (.tx [0x02, 0x00, 0x4F, 0x01, 0x90, 0x03, 0xE5, 0x0D]) = .ok (.reqRomver 0) ∧
      (running (.transact [] 0 true) .send).requestBytes = some [] ∧ decode (.tx []) = .error .notAFrame ∧
      scanning.busy = true ∧ scanning.phase = .scan ∧ scanning.rxByte = none ∧ scanning.out = ack :: [] ∧
      decode (.rx ack) = .ok (.rspAck 0 []) :=
  ⟨⟨rfl, rfl, rfl, rfl⟩, rfl, rfl, rfl, rfl, rfl, rfl, rfl, rfl, rfl, rfl, rfl, rfl, rfl⟩

theorem witness_WireLevelAgreesWithOperation :
    (sending.Inv ∧ sending.op = some (.rdfw 500) ∧ sending.phase = .send ∧
      (∃ b, sending.requestBytes = some b ∧ decode (.tx b) = .ok (.reqRomver 0))) ∧
      scanning.Inv ∧ scanning.op = some (.transact [] 500 true) ∧ scanning.phase = .scan ∧
      scanning.rxByte = none ∧ scanning.out = ack :: [] ∧ decode (.rx ack) = .ok (.rspAck 0 []) :=
  ⟨⟨sending_inv, rfl, rfl, _, rfl, rfl⟩, scanning_inv, rfl, rfl, rfl, rfl, rfl⟩

/-- RDMODE presented while RDFW is in progress. -/
def askedBusy (r : Request) : State := { running (.rdfw 500) .poll with request := some r }

theorem witness_BusyPortTurnsRequestsAway :
    (askedBusy ⟨0x8, [.nat 1]⟩).resetIn = false ∧ (askedBusy ⟨0x8, [.nat 1]⟩).request = some ⟨0x8, [.nat 1]⟩ ∧
      (askedBusy ⟨0x8, [.nat 1]⟩).busy = true ∧ (askedBusy ⟨0x8, [.nat 1]⟩).op ≠ some (.rdmode 1) ∧
      (Instr.rdmode 1).isHostOp = true ∧ (asked ⟨0x8, [.nat 1]⟩).busy = false ∧
      decode (.host ⟨0x8, [.nat 1]⟩) = .ok (.rdmode 1) :=
  ⟨rfl, rfl, rfl, by decide, rfl, rfl, rfl⟩

theorem witness_ReservedOpCodesAreRejected :
    ((asked ⟨0x0, []⟩).request = some ⟨0x0, []⟩ ∧ (asked ⟨0x0, []⟩).busy = false ∧
      (asked ⟨0x0, []⟩).resetIn = false) ∧
      ((programmed ⟨0xF, []⟩).request = none ∧ (programmed ⟨0xF, []⟩).program = ⟨0xF, []⟩ :: [] ∧
        (programmed ⟨0xF, []⟩).busy = false ∧ (programmed ⟨0xF, []⟩).resetIn = false) ∧
      (askedBusy ⟨0xE, []⟩).request = some ⟨0xE, []⟩ ∧ (askedBusy ⟨0xE, []⟩).busy = true ∧
      (askedBusy ⟨0xE, []⟩).resetIn = false :=
  ⟨⟨rfl, rfl, rfl⟩, ⟨rfl, rfl, rfl, rfl⟩, rfl, rfl, rfl⟩

theorem witness_MisshapenRequestsAreRefused :
    (asked ⟨0x7, []⟩).resetIn = false ∧ (asked ⟨0x7, []⟩).busy = false ∧
      (asked ⟨0x7, []⟩).request = some ⟨0x7, []⟩ ∧
      ((programmed ⟨0x7, []⟩).request = none ∧ (programmed ⟨0x7, []⟩).program.head? = some ⟨0x7, []⟩) ∧
      decode (.host ⟨0x7, []⟩) = .error .operandShape ∧ DecodeError.operandShape ≠ .reservedOpCode ∧
      255 < (zeros 256).length :=
  ⟨rfl, rfl, rfl, ⟨rfl, rfl⟩, rfl, nofun, by rw [length_zeros]; decide⟩

theorem witness_ValidateRunsToItsVerdict : idle.busy = false := rfl

theorem witness_LastframeRunsToTheLastWholeStep : idle.busy = false := rfl

theorem witness_RbclrEmptiesTheBuffer : idle.busy = false := rfl

theorem witness_EncodingsMatchTheOpcodeTable : (Instr.rspUid 0xFF (zeros 255)).wf = true := payloadFits_zeros 255

theorem witness_AcceptanceStartsTheOperation : Instr.rbclr.isHostOp = true ∧ idle.busy = false := ⟨rfl, rfl⟩

/-- Payloads of 0 and of 255 bytes. -/
theorem witness_BuildRunsToItsFrame :
    idle.busy = false ∧ ([] : Bytes).length ≤ 255 ∧ (zeros 255).length ≤ 255 :=
  ⟨rfl, by decide, by rw [length_zeros]⟩

/-- A byte that is no STX; a buffer one byte short of a header, one byte short of its need, complete and valid, complete and corrupted. -/
theorem witness_FeedRunsTheReassemblyLoop :
    idle.busy = false ∧ (0x03 : Byte) ≠ 0x02 ∧
      (byteAt [0x02, 0x00, 0x30] 0 = 0x02 ∧ [0x02, 0x00, 0x30].length < 4) ∧
      (byteAt (ack.take 6) 0 = 0x02 ∧ (ack.take 6).length < 4 + (byteAt (ack.take 6) 3).toNat + 3) ∧
      (byteAt ack 0 = 0x02 ∧ 4 ≤ ack.length ∧ 4 + (byteAt ack 3).toNat + 3 ≤ ack.length ∧
        validateFrame false (ack.take (4 + (byteAt ack 3).toNat + 3)) = true) ∧
      validateFrame false [0x02, 0x00, 0x30, 0x00, 0x03, 0x36, 0x0D] = false := by decide

/-- Three and four bytes; a key and no key of the table; the buzzer bit read either way. -/
theorem witness_DecmodeDecodesTheSixFields :
    idle.busy = false ∧ idle.cfg.WF ∧ { cfg with buzzerSetMeansOn := false }.WF ∧
      [(0x00 : Byte), 0x00, 0x1C].length < 4 ∧ 4 ≤ [(0x00 : Byte), 0x00, 0x1C, 0x40].length ∧
      (byteAt [0x00, 0x00, 0x1C, 0x40] 0, ModeName.commandMode) ∈ idle.cfg.modeNames ∧
      0x50 ∉ idle.cfg.modeNames.map Prod.fst := by decide

/-- An input that is no NACK, a NACK without a code, and the three kinds of code. -/
theorem witness_DecnackClassifiesTheCode :
    idle.busy = false ∧ ¬(validateFrame idle.cfg.checksStx ack = true ∧ byteAt ack 2 = 0x31) ∧
      (validateFrame idle.cfg.checksStx nackBare = true ∧ byteAt nackBare 2 = 0x31 ∧
        (byteAt nackBare 3).toNat = 0) ∧
      (validateFrame idle.cfg.checksStx nackSum = true ∧ 1 ≤ (byteAt nackSum 3).toNat ∧
        byteAt nackSum 4 = 0x42) ∧
      (validateFrame idle.cfg.checksStx nackFmt = true ∧ byteAt nackFmt 4 = 0x44) ∧
      (validateFrame idle.cfg.checksStx nackOther = true ∧ byteAt nackOther 4 ≠ 0x42 ∧
        byteAt nackOther 4 ≠ 0x44) := by decide

/-- Payloads of 0 and of 255 bytes. -/
theorem witness_BuiltFramesValidate :
    ([] : Bytes).length ≤ 255 ∧ (zeros 255).length ≤ 255 ∧ buildFrame 0x00 0x30 [] = buildFrame 0x00 0x30 [] :=
  ⟨by decide, by rw [length_zeros], rfl⟩

/-- X2: the payload byte of a NACK changed; a sequence one byte longer. -/
theorem witness_SingleByteChangesAreDetected :
    let g : Bytes := [0x02, 0x00, 0x31, 0x01, 0x45, 0x03, 0x7B, 0x0D]
    validateFrame false nackFmt = true ∧ g.length = nackFmt.length ∧ 4 < nackFmt.length ∧
      byteAt g 4 ≠ byteAt nackFmt 4 ∧ (∀ j < 8, j ≠ 4 → byteAt g j = byteAt nackFmt j) ∧
      (∀ j, byteAt g (j + 8) = byteAt nackFmt (j + 8)) ∧
      byteAt (nackFmt ++ [0x00]) 3 = byteAt nackFmt 3 ∧ (nackFmt ++ [0x00]).length ≠ nackFmt.length :=
  ⟨by decide, by decide, by decide, by decide, by decide, fun _ => rfl, by decide, by decide⟩

theorem witness_LastFrameOfAFrameSequence :
    ∀ f ∈ [emptyTag, ack], validateFrame false f = true := by decide

/-- The three wait conditions; the longest is 261 bytes that announce 262. -/
theorem witness_WaitConditionIsKept :
    AtWait [] ∧ AtWait [0x02, 0x00, 0x30] ∧ AtWait ([0x02, 0x00, 0x30, 0xFF] ++ zeros 257) :=
  ⟨.inl rfl, .inr (.inl ⟨rfl, by decide⟩), .inr (.inr ⟨rfl, by
    rw [List.length_append, length_zeros]; exact ⟨by decide, by decide⟩⟩)⟩

/-- F5: seven bytes of twelve. -/
theorem witness_FeedingIsIndependentOfFragmentation : AtWait (version.take 7) :=
  .inr (.inr ⟨rfl, by decide, by decide⟩)

/-- F1 and F3. -/
theorem witness_NoiseAndCorruptionAreRecovered :
    let bad : Bytes := [0x02, 0x00, 0x30, 0x00, 0x03, 0x36, 0x0D]
    (∀ b ∈ [(0xAA : Byte), 0x55, 0x00, 0x0D, 0x03], b ≠ 0x02) ∧ IsFrame ack ∧
      byteAt bad 0 = 0x02 ∧ bad.length = 7 + (byteAt bad 3).toNat ∧ validateFrame false bad = false ∧
      (∀ b ∈ bad.drop 1, b ≠ 0x02) ∧ IsFrame version :=
  ⟨by decide, rfl, by decide, by decide, by decide, by decide, rfl⟩

theorem witness_ExchangeStartFixesTheDeadline :
    (running (.transact [] 500 true) .start).At (.transact [] 500 true) .start ∧
      (running (.rdfw 500) .start).At (.rdfw 500) .start ∧
      (running (.rdmode 500) .start).At (.rdmode 500) .start ∧
      (State.At { running (.wrmode 500) .start with modeRaw := [0, 0, 0, 0] } (.wrmode 500) .start ∧
        4 ≤ [(0 : Byte), 0, 0, 0].length) ∧
      (running (.buzzer 1 0 500) .start).At (.buzzer 1 0 500) .start :=
  ⟨⟨rfl, rfl, rfl⟩, ⟨rfl, rfl, rfl⟩, ⟨rfl, rfl, rfl⟩, ⟨⟨rfl, rfl, rfl⟩, by decide⟩, ⟨rfl, rfl, rfl⟩⟩

theorem witness_WrmodeFailsWithoutItsPrecondition :
    { idle with modeRaw := [0x00, 0x00, 0x1C] }.busy = false ∧
      { idle with modeRaw := [0x00, 0x00, 0x1C] }.modeRaw.length < 4 := ⟨rfl, by decide⟩

/-- Both answers of the transport; a request frame outside SEND; TRANSACT's own bytes. -/
theorem witness_RequestsAreTracedAndWritten :
    encode (.reqRomver 0) = .tx [0x02, 0x00, 0x4F, 0x01, 0x90, 0x03, 0xE5, 0x0D] ∧
      (sending.busy = true ∧ sending.phase = .send ∧ sending.env.writeAnswer = true) ∧
      { sending with env := { sending.env with writeQ := [false] } }.env.writeAnswer = false ∧
      ¬(idle.busy = true ∧ idle.phase = .send) ∧
      (running (.transact [] 0 true) .send).At (.transact [] 0 true) .send :=
  ⟨rfl, ⟨rfl, rfl, rfl⟩, rfl, by decide, rfl, rfl, rfl⟩

/-- The next sample is 7: a deadline of 7 ends the loop, one of 8 does not. -/
theorem witness_DeadlineTestEndsTheLoop :
    (Instr.inventory 500).usesTransport = true ∧
      State.At { running (.inventory 500) .check with deadline := 7 } (.inventory 500) .check ∧
      idle.env.afterNow.clock = 7 := ⟨rfl, ⟨rfl, rfl, rfl⟩, rfl⟩

theorem witness_PollsAreFollowedByBackoffOnlyWhenEmpty :
    ((Instr.rdfw 500).usesTransport = true ∧ (running (.rdfw 500) .poll).At (.rdfw 500) .poll ∧
      (running (.rdfw 500) .poll).env.readAnswer = some 0x02) ∧
      { idle.env with readQ := [none] }.readAnswer = none ∧
      ((Instr.rdfw 500).isExchange = true ∧ (running (.rdfw 500) .backoff).At (.rdfw 500) .backoff) ∧
      (running (.inventory 500) .backoff).At (.inventory 500) .backoff :=
  ⟨⟨rfl, ⟨rfl, rfl, rfl⟩, rfl⟩, rfl, ⟨rfl, rfl, rfl, rfl⟩, rfl, rfl, rfl⟩

theorem witness_EveryReceivedByteIsFed :
    (State.At { running (.rdfw 500) .scan with rxByte := some 0x02 } (.rdfw 500) .scan ∧
      (Instr.rdfw 500).isExchange = true) ∧
      State.At { running (.inventory 500) .scan with rxByte := some 0x55 } (.inventory 500) .scan ∧
      (running (.inventory 500) .scan).rxByte = none ∧ (running (.inventory 500) .scan).out = [] :=
  ⟨⟨⟨rfl, rfl, rfl⟩, rfl⟩, ⟨rfl, rfl, rfl⟩, rfl, rfl⟩

/-- With stop_on_terminal and without; a response frame where none is read. -/
theorem witness_ExchangeHandlesResponses :
    (scanning.busy = true ∧ scanning.phase = .scan ∧ scanning.rxByte = none ∧ scanning.exchanging = true ∧
      scanning.stopsOnTerminal = true) ∧
      (running (.transact [] 500 false) .scan).stopsOnTerminal = false ∧
      encode (.rspAck 0 []) = .rx ack ∧ isClassified 0x55 = false ∧
      ¬(idle.busy = true ∧ idle.phase = .scan ∧ idle.rxByte = none ∧
        (idle.exchanging = true ∨ idle.collecting = true)) :=
  ⟨⟨rfl, rfl, rfl, rfl, rfl⟩, rfl, rfl, rfl, by decide⟩

/-- An operation at FINISH, with what it accumulated and how its loop ended. -/
def ended (i : Instr) (acc : Bytes) (c : EndCause) : State :=
  { running i .finish with acc := acc, cause := some c }

theorem ended_at (i : Instr) (acc : Bytes) (c : EndCause) : (ended i acc c).At i .finish := ⟨rfl, rfl, rfl⟩

theorem witness_TransactReturnsItsOutcome :
    (ended (.transact [] 0 true) [] .writeFailed).cause = some .writeFailed ∧
      (ended (.transact [] 0 true) ack .terminal).cause = some .terminal ∧
      (ended (.transact [] 0 true) [] .timeout).cause = some .timeout ∧
      (ended (.transact [] 0 true) [] .timeout).At (.transact [] 0 true) .finish :=
  ⟨rfl, rfl, rfl, ended_at _ _ _⟩

/-- No frame, with and without a refused write; the four kinds of NACK; all four operations. -/
theorem witness_CompositesShareTheirFailures :
    ((ended (.rdfw 5) [] .writeFailed).At (.rdfw 5) .finish ∧
      lastFrame (ended (.rdfw 5) [] .writeFailed).acc = none) ∧
      ((ended (.rdmode 5) [] .timeout).At (.rdmode 5) .finish ∧
        (ended (.rdmode 5) [] .timeout).cause ≠ some .writeFailed) ∧
      ((ended (.wrmode 5) nackSum .terminal).At (.wrmode 5) .finish ∧
        (ended (.wrmode 5) nackSum .terminal).cause ≠ some .precond) ∧
      (ended (.buzzer 1 0 5) nackBare .terminal).At (.buzzer 1 0 5) .finish ∧
      (lastFrame nackSum = some nackSum ∧ IsFrame nackSum ∧ byteAt nackSum 2 = 0x31 ∧ 1 ≤ frameLen nackSum ∧
        byteAt nackSum 4 = 0x42) ∧
      (lastFrame nackFmt = some nackFmt ∧ byteAt nackFmt 4 = 0x44) ∧
      (lastFrame nackOther = some nackOther ∧ byteAt nackOther 4 = 0x43) ∧
      (lastFrame nackBare = some nackBare ∧ frameLen nackBare = 0) :=
  ⟨⟨ended_at _ _ _, rfl⟩, ⟨ended_at _ _ _, by decide⟩, ⟨ended_at _ _ _, by decide⟩, ended_at _ _ _,
    ⟨rfl, rfl, by decide, by decide, by decide⟩, by decide, by decide, by decide⟩

/-- Four characters (C1) and three (C2); a bare ACK (C8), which has no detail code. -/
theorem witness_RdfwReturnsTheVersionText :
    let short : Bytes := [0x02, 0x00, 0x30, 0x04, 0x90, 0x31, 0x32, 0x33, 0x03, 0x5F, 0x0D]
    (ended (.rdfw 500) version .terminal).At (.rdfw 500) .finish ∧
      (lastFrame version = some version ∧ IsFrame version ∧ byteAt version 2 = 0x30 ∧ byteAt version 2 ≠ 0x31 ∧
        frameLen version = 5 ∧ byteAt version 4 = 0x90) ∧
      (lastFrame short = some short ∧ IsFrame short ∧ byteAt short 2 = 0x30 ∧ frameLen short = 4 ∧
        byteAt short 4 = 0x90) ∧
      (lastFrame ack = some ack ∧ IsFrame ack ∧ ¬(byteAt ack 2 = 0x30 ∧ 1 ≤ frameLen ack ∧ byteAt ack 4 = 0x90)) :=
  ⟨ended_at _ _ _, ⟨rfl, rfl, by decide, by decide, by decide, by decide⟩,
    ⟨rfl, rfl, by decide, by decide, by decide⟩, rfl, rfl, by decide⟩

/-- M1 and M4. -/
theorem witness_RdmodeCapturesTheMode :
    (ended (.rdmode 300) mode .terminal).At (.rdmode 300) .finish ∧
      (lastFrame mode = some mode ∧ IsFrame mode ∧ byteAt mode 2 ≠ 0x31 ∧ byteAt mode 2 = 0x30 ∧
        1 ≤ frameLen mode ∧ byteAt mode 4 = 0x00) ∧
      (lastFrame version = some version ∧ IsFrame version ∧
        ¬(byteAt version 2 = 0x30 ∧ 1 ≤ frameLen version ∧ byteAt version 4 = 0x00)) :=
  ⟨ended_at _ _ _, ⟨rfl, rfl, by decide, by decide, by decide, by decide⟩, rfl, rfl, by decide⟩

/-- W2 and W6; the same frames for BUZZER. -/
theorem witness_WrmodeAndBuzzerNeedAnAck :
    ((ended (.wrmode 300) ack .terminal).At (.wrmode 300) .finish ∧
      (ended (.wrmode 300) ack .terminal).cause ≠ some .precond) ∧
      (ended (.buzzer 1 0 300) emptyTag .timeout).At (.buzzer 1 0 300) .finish ∧
      (lastFrame ack = some ack ∧ IsFrame ack ∧ byteAt ack 2 = 0x30 ∧ byteAt ack 2 ≠ 0x31) ∧
      (lastFrame emptyTag = some emptyTag ∧ IsFrame emptyTag ∧ byteAt emptyTag 2 ≠ 0x31 ∧
        byteAt emptyTag 2 ≠ 0x30) :=
  ⟨⟨ended_at _ _ _, by decide⟩, ended_at _ _ _, ⟨rfl, rfl, by decide, by decide⟩, rfl, rfl, by decide, by decide⟩

theorem witness_InventoryStartClearsItsResults :
    (running (.inventory 1000) .start).At (.inventory 1000) .start := ⟨rfl, rfl, rfl⟩

/-- Two payload bytes announce a count, one does not; nine make a record, eight do not; a NACK with a code of each kind, and without. -/
theorem witness_InventoryHandlesResponses :
    ((running (.inventory 1000) .scan).busy = true ∧ (running (.inventory 1000) .scan).phase = .scan ∧
      (running (.inventory 1000) .scan).rxByte = none ∧ (running (.inventory 1000) .scan).collecting = true) ∧
      (∀ n rest, ([0xF0] : Bytes) ≠ 0xF0 :: n :: rest) ∧ (∀ n rest, ([] : Bytes) ≠ 0xF0 :: n :: rest) ∧
      (zeros 8).length < 9 ∧ (zeros 255).length ≤ 255 ∧
      ([0x42] : Bytes).head? = some 0x42 ∧ ([0x44] : Bytes).head? = some 0x44 ∧
      ([] : Bytes).head? ≠ some 0x42 ∧ ([] : Bytes).head? ≠ some 0x44 ∧ isClassified 0x55 = false :=
  ⟨⟨rfl, rfl, rfl, rfl⟩, nofun, nofun, by decide, by rw [length_zeros], rfl, rfl, by decide, by decide, rfl⟩

/-- EXPECTED 0 is reached; 120 ms of silence are not enough, 121 are; no UID, no silence. -/
theorem witness_TerminationRaceOfInventory :
    (0 ≤ { idle with expected := 0 }.expected ∧
      { idle with expected := 0 }.expected ≤ ({ idle with expected := 0 }.items.length : Int)) ∧
      ¬(0 ≤ idle.expected ∧ idle.expected ≤ (idle.items.length : Int)) ∧
      { idle.env with clock := 113 }.afterNow.clock - 0 ≤ idle.cfg.silenceMs ∧
      { idle.env with clock := 114 }.afterNow.clock - 0 > idle.cfg.silenceMs ∧ idle.haveUid = false := by decide

/-- No item and no error; each of the six errors. -/
theorem witness_InventoryNeverReturnsAnEmptySuccess :
    let s := running (.inventory 1000) .finish
    (s.At (.inventory 1000) .finish ∧ s.items = [] ∧ s.err = .clear) ∧
      ∀ e ∈ [InvError.clear, .noTags, .writeFailed, .nackSum, .nackFmt, .nackUnknown],
        ¬({ s with err := e, items := [item1] }.items = [] ∧ { s with err := e, items := [item1] }.err = .clear) :=
  ⟨⟨⟨rfl, rfl, rfl⟩, rfl, rfl⟩, by decide⟩

/-- The return of a successful RDMODE. -/
theorem witness_ModeRawIsWrittenOnlyByASuccessfulRdmode :
    ∃ t, (ended (.rdmode 300) mode .terminal).resetIn = false ∧
      step (ended (.rdmode 300) mode .terminal) = .next t ∧ t.modeRaw = [0x00, 0x00, 0x1C, 0xC0] :=
  ⟨_, rfl, rfl, rfl⟩

/-- The return of RBCLR, in which only the four result registers have their writer; a step of DECMODE, which is no writer of RB. -/
theorem witness_RegistersHaveTheirWritersOnly :
    ∃ t u, step (running .rbclr .finish) = .next t ∧ (running .rbclr .finish).resetIn = false ∧
      (running .rbclr .finish).collecting = false ∧ (running .rbclr .finish).exchanging = false ∧
      (running .rbclr .finish).phase ≠ .start ∧ (running .rbclr .finish).phase ≠ .scan ∧
      step (running (.decmode []) .start) = .next u ∧
      (running (.decmode []) .start).op ≠ some .rbclr ∧ (∀ b, (running (.decmode []) .start).op ≠ some (.feed b)) ∧
      (running (.decmode []) .start).exchanging = false ∧ (running (.decmode []) .start).collecting = false ∧
      ¬((running (.decmode []) .start).busy = true ∧ (running (.decmode []) .start).phase = .finish) :=
  ⟨_, _, rfl, rfl, rfl, rfl, nofun, nofun, rfl, nofun, nofun, rfl, rfl, by decide⟩

/-- After reset the machine with a program takes its first request. -/
theorem programmed_inv (r : Request) : (programmed r).Inv where
  cfg := (by decide : cfg.WF)
  busyPhase := ⟨nofun, fun h => absurd rfl h⟩
  busyOp := ⟨nofun, nofun⟩
  opHost := nofun
  purePhase := nofun
  rb := .inl rfl
  acc := ⟨[], nofun, rfl⟩
  out := nofun
  rxByte := fun h => absurd rfl h
  outPhase := fun h => absurd rfl h
  haveUid := (by decide : idle.haveUid = true ↔ 1 ≤ idle.items.length)
  expected := (by decide : -1 ≤ idle.expected ∧ idle.expected ≤ 255)
  modeRaw := (by decide : idle.modeRaw.length ≤ 254)

/-- A SEND, a step of SCAN, and an acceptance. -/
theorem witness_OneWritePerRun :
    ∃ t u v, (sending.Inv ∧ sending.resetIn = false ∧ sending.request = none ∧ step sending = .next t ∧
      sending.phase = .send) ∧ scanning.Inv ∧ scanning.resetIn = false ∧ scanning.request = none ∧
      step scanning = .next u ∧ scanning.phase ≠ .send ∧
      (programmed ⟨0x7, [.nat 500]⟩).Inv ∧ (programmed ⟨0x7, [.nat 500]⟩).resetIn = false ∧
      (programmed ⟨0x7, [.nat 500]⟩).request = none ∧ step (programmed ⟨0x7, [.nat 500]⟩) = .next v ∧
      v.phase = .start :=
  ⟨_, _, _, ⟨sending_inv, rfl, rfl, rfl, rfl⟩, scanning_inv, rfl, rfl, rfl, nofun, programmed_inv _, rfl, rfl,
    rfl, rfl⟩

/-- A step of FEED, one of DECNACK and one of DECMODE. -/
theorem witness_PortFreeOperationsTouchNoPort :
    ∃ t u v, ((Instr.feed 2).isPure = true ∧ exec (.feed 2) (running (.feed 2) .start) = .next t) ∧
      ((Instr.decnack ack).isPure = true ∧ exec (.decnack ack) (running (.decnack ack) .finish) = .next u) ∧
      (Instr.decmode []).isPure = true ∧ exec (.decmode []) (running (.decmode []) .finish) = .next v :=
  ⟨_, _, _, ⟨rfl, rfl⟩, ⟨rfl, rfl⟩, rfl, rfl⟩

/-- A POLL that takes a byte. -/
theorem witness_TimeAndReceiveStreamMoveForward :
    ∃ t, step (running (.rdfw 500) .poll) = .next t ∧ (running (.rdfw 500) .poll).env.readQ = some 0x02 :: [none] :=
  ⟨_, rfl, rfl⟩

/-- A return, and a reserved op code. -/
theorem witness_DoneMarksEveryReturn :
    ∃ t u, ((running .rbclr .finish).resetIn = false ∧ step (running .rbclr .finish) = .next t ∧
      (running .rbclr .finish).busy = true ∧ t.done = true) ∧
      (asked ⟨0x0, []⟩).resetIn = false ∧ step (asked ⟨0x0, []⟩) = .next u ∧ (asked ⟨0x0, []⟩).busy = false ∧
      u.done = true :=
  ⟨_, _, ⟨rfl, rfl, rfl, rfl⟩, rfl, rfl, rfl, rfl⟩

theorem witness_StepKeepsTheInvariant : ∃ t, scanning.Inv ∧ step scanning = .next t := ⟨_, scanning_inv, rfl⟩

theorem scanning_accInv : scanning.AccInv where
  terminal := nofun
  writeFailed := nofun
  running := fun _ => rfl
  sending := nofun
  nonTerminal := fun _ _ _ => ⟨[], nofun, rfl⟩

theorem witness_StepKeepsTheAccumulatorInvariant :
    ∃ t, scanning.Inv ∧ scanning.AccInv ∧ step scanning = .next t := ⟨_, scanning_inv, scanning_accInv, rfl⟩

/-- TRANSACT at FINISH after a terminal frame. -/
theorem witness_TransactReturnsValidFrames :
    ∃ s : State, s.Inv ∧ s.AccInv ∧ s.At (.transact [] 500 true) .finish ∧ s.cause = some .terminal ∧ s.acc = ack :=
  ⟨{ running (.transact [] 500 true) .finish with acc := [ack].flatten, cause := some .terminal },
    { running_inv (i := .transact [] 500 true) (ph := .finish) (out := []) (acc := [ack]) ⟨rfl, rfl⟩ rfl nofun nofun
        (by intro f hf; rw [List.mem_singleton] at hf; subst hf; rfl) (fun h => absurd rfl h) with },
    { terminal := fun _ _ => ⟨[], ack, ⟨[], nofun, rfl⟩, rfl, rfl, rfl⟩
      writeFailed := nofun
      running := fun h => absurd rfl h
      sending := nofun
      nonTerminal := fun _ _ h => by
        rcases h with h | h | h | h | ⟨_, h⟩ <;> cases h },
    ⟨rfl, rfl, rfl⟩, rfl, rfl⟩

theorem witness_NoFaultInReachableStates : sending.Inv ∧ scanning.Inv := ⟨sending_inv, scanning_inv⟩

/-- Operands at the end of their ranges; a code that decodes. -/
theorem witness_DecodeAndEncodeAgree :
    (Instr.build 0 0 (zeros 255)).wf = true ∧ (Instr.reqInventory 0 (zeros 254)).wf = true ∧
      (Instr.rspOther 0 0x55 []).wf = true ∧ decode (.rx ack) = .ok (.rspAck 0 []) :=
  ⟨payloadFits_zeros 255, by rw [Instr.wf, length_zeros]; rfl, rfl, rfl⟩

theorem witness_NoRuleSeesAbsoluteTime : scanning.resetIn = false := rfl

theorem witness_ResetInputAbandonsTheOperation :
    { scanning with resetIn := true }.resetIn = true := rfl

/-- RDFW polling, with a budget of 1 left of it and every answer of the time source 1 ms later. -/
theorem witness_EveryOperationEnds :
    ∃ s : State, s.Inv ∧ s.op = some (.rdfw 1) ∧ s.resetIn = false ∧ s.request = none ∧
      (∀ d ∈ s.env.nowQ, 1 ≤ d) ∧
      (s.deadline - s.env.clock) + (Instr.rdfw 1).budget + s.out.length + 64 ≤ s.env.nowQ.length :=
  ⟨{ running (.rdfw 1) .poll with deadline := 1, env := { idle.env with nowQ := List.replicate 66 1 } },
    { running_inv (i := .rdfw 1) (ph := .poll) (out := []) (acc := []) ⟨rfl, rfl⟩ rfl nofun nofun nofun
        (fun h => absurd rfl h) with },
    rfl, rfl, rfl, by decide, by decide⟩

/-- WRMODE with four bytes in MODE_RAW, and an ACK that waits in the stream. -/
theorem witness_ExchangeRunsToItsAnswer :
    ∃ s : State, (Instr.wrmode 1).isExchange = true ∧ s.stopsOnTerminal = true ∧ s.At (.wrmode 1) .start ∧
      4 ≤ s.modeRaw.length ∧ 1 ≤ (Instr.wrmode 1).budget ∧ s.rxByte = none ∧ s.out = [] ∧ s.cause = none ∧
      s.resetIn = false ∧ s.request = none ∧ IsFrame ack ∧ isTerminal ack = true ∧
      s.env.writeQ.head? = some true ∧ s.env.readQ = ack.map some ++ [some 0x55] ∧
      s.env.nowQ = List.replicate 8 0 ∧ ack.length + 1 ≤ 8 :=
  ⟨{ running (.wrmode 1) .start with
      modeRaw := [0, 0, 0, 0]
      env := { idle.env with nowQ := List.replicate 8 0, readQ := ack.map some ++ [some 0x55] } },
    rfl, rfl, ⟨rfl, rfl, rfl⟩, by decide, by decide, rfl, rfl, rfl, rfl, rfl, rfl, rfl, rfl, rfl, rfl, by decide⟩

/-- One tag announced, and its record of nine bytes. -/
theorem witness_InventoryEndsAtTheAnnouncedCount :
    let tags : List (Byte × Bytes) := [(0x00, [0x00, 0x01, 0x02, 0x03, 0x04, 0x05, 0x06, 0x07, 0xE0])]
    let bytes := buildFrame 0x00 0x30 [0xF0, 0x01] ++ tag1
    ∃ s : State, s.At (.inventory 1) .start ∧ s.rxByte = none ∧ s.out = [] ∧ s.cause = none ∧
      s.resetIn = false ∧ s.request = none ∧ 1 ≤ tags.length ∧ tags.length ≤ 255 ∧
      (∀ g ∈ tags, 9 ≤ g.2.length ∧ g.2.length ≤ 255) ∧
      bytes = buildFrame 0x00 0x30 [0xF0, BitVec.ofNat 8 tags.length] ++
        (tags.map fun g => buildFrame g.1 0x49 g.2).flatten ∧
      s.env.writeQ.head? = some true ∧ s.env.readQ = bytes.map some ++ [] ∧
      s.env.nowQ = List.replicate 76 0 ∧ 3 * bytes.length + 1 ≤ 76 :=
  ⟨{ running (.inventory 1) .start with
      env := { idle.env with
        nowQ := List.replicate 76 0
        readQ := (buildFrame 0x00 0x30 [0xF0, 0x01] ++ tag1).map some ++ [] } },
    ⟨rfl, rfl, rfl⟩, rfl, rfl, rfl, rfl, rfl, by decide, by decide, by decide, by decide, rfl, rfl, rfl, by decide⟩

theorem witness_ZeroBudgetPollsNothing :
    (running (.transact ack 0 true) .start).At (.transact ack 0 true) .start ∧
      (running (.inventory 0) .start).At (.inventory 0) .start ∧
      (running (.inventory 0) .start).cause = none ∧ (running (.inventory 0) .start).resetIn = false ∧
      (running (.inventory 0) .start).request = none :=
  ⟨⟨rfl, rfl, rfl⟩, ⟨rfl, rfl, rfl⟩, rfl, rfl, rfl⟩

/-- Each of the five operations in SEND. -/
theorem witness_EachOperationSendsItsRequest :
    (running (.rdfw 500) .send).At (.rdfw 500) .send ∧ (running (.rdmode 500) .send).At (.rdmode 500) .send ∧
      (running (.wrmode 500) .send).At (.wrmode 500) .send ∧
      (running (.buzzer 1 0 500) .send).At (.buzzer 1 0 500) .send ∧
      (running (.inventory 500) .send).At (.inventory 500) .send :=
  ⟨⟨rfl, rfl, rfl⟩, ⟨rfl, rfl, rfl⟩, ⟨rfl, rfl, rfl⟩, ⟨rfl, rfl, rfl⟩, rfl, rfl, rfl⟩

end Sys2Proof.Tests
end

namespace Sys2Proof

/-! What executing an instruction does at the two levels of 00_scope.md R10: a wire frame against the operation in progress, a host operation at the idle port, and the pulse `done` that ends it. -/

/-! ### The shape of valid frames and of the wire level's encodings -/

/-- A sequence of the length its LEN byte announces is a header, a payload of LEN bytes and a footer (30_encoding.md R91). -/
theorem exists_header_payload_footer {f : Bytes} (h : needOf f = f.length) :
    ∃ b0 b1 b2 b3 p x y z, f = [b0, b1, b2, b3] ++ p ++ [x, y, z] ∧ p.length = b3.toNat := by
  have hlen : 7 ≤ f.length := h ▸ (needOf_bounds f).1
  match f, h, hlen with
  | b0 :: b1 :: b2 :: b3 :: rest, h, _ =>
    have hrest : rest.length = b3.toNat + 3 := by simp [needOf] at h; omega
    obtain ⟨x, y, z, hfoot⟩ : ∃ x y z, rest.drop b3.toNat = [x, y, z] :=
      List.length_eq_three.1 (by simp [hrest])
    refine ⟨b0, b1, b2, b3, rest.take b3.toNat, x, y, z, ?_, by simp [hrest]⟩
    simp [← hfoot]
  | [], _, hlen | [_], _, hlen | [_, _], _, hlen | [_, _, _], _, hlen => simp at hlen

/-- A valid frame is the built frame of its fields (30_encoding.md R91, 40_framecodec.md R131). -/
theorem IsFrame.exists_buildFrame {f : Bytes} (h : IsFrame f) :
    ∃ addr cmd p, p.length ≤ 255 ∧ f = buildFrame addr cmd p := by
  obtain ⟨-, hneed, hetx, hcr, hsum, hstx⟩ := (validateFrame_iff true f).1 h
  obtain ⟨b0, b1, b2, b3, p, x, y, z, rfl, hp⟩ := exists_header_payload_footer hneed
  have hlen : BitVec.ofNat 8 p.length = b3 := by simp [hp]
  have hb := b3.isLt
  refine ⟨b1, b2, p, by omega, ?_⟩
  have hx : x = Config.etx := by simpa [byteAt_append_right] using hetx
  have hz : z = Config.cr := by simpa [byteAt_append_right] using hcr
  have h0 : b0 = Config.stx := by simpa using hstx
  have hy : y = sum8 (frameBody b1 b2 p) := by
    have htake : ([b0, b1, b2, b3] ++ p ++ [x, y, z]).take
        (([b0, b1, b2, b3] ++ p ++ [x, y, z]).length - 2) = frameBody b1 b2 p := by
      simp [List.take_append, frameBody, hlen, hx, h0]
    rw [htake] at hsum
    simpa [byteAt_append_right] using hsum
  simp [buildFrame, frameBody, hlen, hx, hy, hz, h0]

@[simp] theorem frameAddr_buildFrame (addr cmd : Byte) (p : Bytes) :
    frameAddr (buildFrame addr cmd p) = addr := rfl

@[simp] theorem frameCmd_buildFrame (addr cmd : Byte) (p : Bytes) :
    frameCmd (buildFrame addr cmd p) = cmd := rfl

theorem frameLen_buildFrame {addr cmd : Byte} {p : Bytes} (hp : p.length ≤ 255) :
    frameLen (buildFrame addr cmd p) = p.length := by
  have : frameLen (buildFrame addr cmd p) = p.length % 256 := by
    simp [frameLen, buildFrame, frameBody]
  omega

theorem framePayload_buildFrame {addr cmd : Byte} {p : Bytes} (hp : p.length ≤ 255) :
    framePayload (buildFrame addr cmd p) = p := by
  rw [framePayload, frameLen_buildFrame hp]
  simp [buildFrame, frameBody]

/-- The request read from a frame's fields encodes to the frame of these fields (30_encoding.md R95 to R98, R100). -/
theorem encode_of_requestOfFields {addr cmd : Byte} {p : Bytes} {i : Instr}
    (h : requestOfFields addr cmd p = .ok i) : encode i = .tx (buildFrame addr cmd p) := by
  unfold requestOfFields at h
  split at h
  case isTrue hcmd =>
    subst hcmd
    split at h
    case isTrue hp => cases h; rw [hp]; rfl
    case isFalse =>
      split at h
      case isTrue hp => cases h; rw [hp]; rfl
      case isFalse => cases h
  case isFalse =>
    split at h
    case isTrue hcmd =>
      subst hcmd
      split at h
      · split at h
        case isTrue hfixed =>
          obtain ⟨rfl, rfl, rfl, rfl, rfl⟩ := hfixed
          cases h; rfl
        case isFalse => cases h
      · cases h
    case isFalse =>
      split at h
      case isTrue hcmd =>
        subst hcmd
        split at h
        · split at h
          case isTrue hdetail => subst hdetail; cases h; rfl
          case isFalse => cases h
        · cases h
      case isFalse =>
        split at h
        case isTrue hcmd =>
          subst hcmd
          split at h
          · cases h; rfl
          · cases h
        case isFalse => cases h

/-- A frame read on the transmit stream is the encoding of the request it is read as. -/
theorem encode_of_decodeTx {f : Bytes} {i : Instr} (h : decode (.tx f) = .ok i) : encode i = .tx f := by
  simp only [decode, decodeTx] at h
  split at h
  case isTrue hf =>
    obtain ⟨addr, cmd, p, hp, rfl⟩ := IsFrame.exists_buildFrame hf
    rw [framePayload_buildFrame hp] at h
    exact encode_of_requestOfFields h
  case isFalse => cases h

/-- A command code without a response row of its own (30_encoding.md R105). -/
theorem isClassified_eq_false_iff {cmd : Byte} :
    isClassified cmd = false ↔ cmd ≠ 0x30#8 ∧ cmd ≠ 0x31#8 ∧ cmd ≠ 0x49#8 := by
  simp [isClassified, and_assoc]

/-- The response read from a frame's fields is an instruction that encodes to the frame of these fields (30_encoding.md R101 to R105). -/
theorem encode_responseOfFields (addr cmd : Byte) {p : Bytes} (hp : p.length ≤ 255) :
    encode (responseOfFields addr cmd p) = .rx (buildFrame addr cmd p) ∧
      (responseOfFields addr cmd p).wf = true := by
  unfold responseOfFields
  split
  case isTrue h => subst h; exact ⟨rfl, by simpa [Instr.wf, payloadFits] using hp⟩
  case isFalse hack =>
    split
    case isTrue h => subst h; exact ⟨rfl, by simpa [Instr.wf, payloadFits] using hp⟩
    case isFalse hnack =>
      split
      case isTrue h => subst h; exact ⟨rfl, by simpa [Instr.wf, payloadFits] using hp⟩
      case isFalse huid =>
        have hcmd : isClassified cmd = false := isClassified_eq_false_iff.2 ⟨hack, hnack, huid⟩
        exact ⟨rfl, by simp [Instr.wf, payloadFits, hp, hcmd]⟩

/-- A frame read on the receive stream is the encoding of the response it is read as. -/
theorem encode_of_decodeRx {f : Bytes} {i : Instr} (h : decode (.rx f) = .ok i) :
    encode i = .rx f ∧ i.wf = true := by
  simp only [decode, decodeRx] at h
  split at h
  case isTrue hf =>
    obtain ⟨addr, cmd, p, hp, rfl⟩ := IsFrame.exists_buildFrame hf
    rw [framePayload_buildFrame hp] at h
    cases h
    exact encode_responseOfFields addr cmd hp
  case isFalse => cases h

/-- A host operation uses the transport or no port (20_memory.md R60). -/
theorem Instr.usesTransport_of_not_isPure {i : Instr} (hi : i.isHostOp = true) (hp : i.isPure = false) :
    i.usesTransport = true := by
  cases i with
  | transact | rdfw | rdmode | wrmode | buzzer | inventory => rfl
  | build | validate | lastframe | rbclr | feed | decmode | decnack => exact nomatch hp
  | _ => exact nomatch hi

/-- Of the operations that use the transport only INVENTORY does not run on TRANSACT (30_encoding.md R115). -/
theorem Instr.eq_inventory_of_not_isExchange {i : Instr} (hi : i.usesTransport = true)
    (he : i.isExchange = false) : ∃ b, i = .inventory b := by
  cases i with
  | inventory b => exact ⟨b, rfl⟩
  | transact | rdfw | rdmode | wrmode | buzzer => exact nomatch he
  | _ => exact nomatch hi

namespace Machine

section

variable {s t : State} {i : Instr} {f : Bytes}

/-! ### What a wire frame does -/

/-- Every encoded request frame is executed by handing its bytes to SEND (42_transactor.md R173). -/
theorem exec_of_encode_tx (h : encode i = .tx f) (s : State) : exec i s = emitRequest f s := by
  cases i with
  | reqRomver | reqRdmode | reqWrmode | reqInventory | reqBuzzer => cases h; rfl
  | _ => exact nomatch h

/-- Every encoded response frame is executed as one turn of the frame loop of TRANSACT or INVENTORY (42_transactor.md R177, 44_inventory.md R220). -/
theorem exec_of_encode_rx (h : encode i = .rx f) (hw : i.wf = true) (s : State) :
    exec i s = handleResponse (fun u => u.exchangeFrame f) (fun u => u.inventoryFrame f) s := by
  cases i with
  | rspAck | rspNack | rspUid => cases h; rfl
  | rspOther addr cmd p =>
    cases h
    have hcmd : isClassified cmd = false := by simp [Instr.wf] at hw; exact hw.1
    obtain ⟨hack, hnack, huid⟩ := isClassified_eq_false_iff.1 hcmd
    simp [exec, execRspOther, State.exchangeFrame, State.inventoryFrame, isTerminal, hack, hnack, huid]
  | _ => exact nomatch h

theorem emitRequest_send (hb : s.busy = true) (hp : s.phase = .send) :
    emitRequest f s = .next (s.transmit f) := by
  simp [emitRequest, hb, hp]

theorem handleResponse_exchanging {exchange collect : State → State} (hb : s.busy = true)
    (hp : s.phase = .scan) (hx : s.rxByte = none) (he : s.exchanging = true) :
    handleResponse exchange collect s = .next (exchange s) := by
  simp [handleResponse, hb, hp, hx, he]

theorem handleResponse_collecting {exchange collect : State → State} (hb : s.busy = true)
    (hp : s.phase = .scan) (hx : s.rxByte = none) (he : s.exchanging = false) (hc : s.collecting = true) :
    handleResponse exchange collect s = .next (collect s) := by
  simp [handleResponse, hb, hp, hx, he, hc]

/-! ### What the operation in progress does where it works on the wire level -/

theorem exchanging_eq_isExchange (ho : s.op = some i) : s.exchanging = i.isExchange := by
  cases i <;> simp [State.exchanging, ho, Instr.isExchange]

theorem exchangeOp_send {start finish : State → State} (h : s.At i .send) :
    exchangeOp i start finish s = .next s.sendRequest := by
  obtain ⟨hb, ho, hp⟩ := h
  simp [exchangeOp, hostOp_running hb ho, hp]

theorem exchangeOp_scan {start finish : State → State} (h : s.At i .scan) :
    exchangeOp i start finish s = .next s.exchangeScan := by
  obtain ⟨hb, ho, hp⟩ := h
  simp [exchangeOp, hostOp_running hb ho, hp]

theorem execInventory_send {b : Nat} (h : s.At (.inventory b) .send) :
    execInventory b s = .next s.sendRequest := by
  obtain ⟨hb, ho, hp⟩ := h
  simp [execInventory, hostOp_running hb ho, hp]

theorem execInventory_scan {b : Nat} (h : s.At (.inventory b) .scan) :
    execInventory b s = .next s.inventoryScan := by
  obtain ⟨hb, ho, hp⟩ := h
  simp [execInventory, hostOp_running hb ho, hp]

/-- SEND is the same step in all six operations that use the transport. -/
theorem exec_send (hi : i.usesTransport = true) (h : s.At i .send) :
    exec i s = .next s.sendRequest := by
  cases i with
  | inventory => exact execInventory_send h
  | transact | rdfw | rdmode | wrmode | buzzer => exact exchangeOp_send h
  | _ => exact nomatch hi

/-- SCAN is the same step in TRANSACT and its four composites. -/
theorem exec_scan_exchange (hi : i.isExchange = true) (h : s.At i .scan) :
    exec i s = .next s.exchangeScan := by
  cases i with
  | transact | rdfw | rdmode | wrmode | buzzer => exact exchangeOp_scan h
  | _ => exact nomatch hi

theorem sendRequest_some (h : s.requestBytes = some f) : s.sendRequest = s.transmit f := by
  simp [State.sendRequest, h]

theorem exchangeScan_frame {rest : List Bytes} (hx : s.rxByte = none) (ho : s.out = f :: rest) :
    s.exchangeScan = State.exchangeFrame f { s with out := rest } := by
  simp [State.exchangeScan, hx, ho]

theorem inventoryScan_frame {rest : List Bytes} (hx : s.rxByte = none) (ho : s.out = f :: rest) :
    s.inventoryScan = State.inventoryFrame f { s with out := rest } := by
  simp [State.inventoryScan, hx, ho]

/-! ### The two levels agree -/

/-- Under the invariant an operation that stands neither at START nor at FINISH uses the transport. -/
theorem State.Inv.usesTransport (hinv : s.Inv) (ho : s.op = some i) (hs : s.phase ≠ .start)
    (hf : s.phase ≠ .finish) : i.usesTransport = true := by
  refine Instr.usesTransport_of_not_isPure (hinv.opHost i ho).1 ?_
  by_contra hpure
  rcases hinv.purePhase i ho (by simpa using hpure) with h | h
  · exact hs h
  · exact hf h

/-- Under the invariant an operation in progress stands at its phase. -/
theorem State.Inv.standsAt (hinv : s.Inv) (ho : s.op = some i) : s.At i s.phase :=
  ⟨hinv.busyOp.2 (by simp [ho]), ho, rfl⟩

/-- A request frame executed in SEND is SEND of the operation in progress. -/
theorem exec_eq_exec_request {j : Instr} (hi : i.usesTransport = true) (h : s.At i .send)
    (hr : s.requestBytes = some f) (hd : decode (.tx f) = .ok j) : exec i s = exec j s := by
  calc exec i s = .next s.sendRequest := exec_send hi h
    _ = .next (s.transmit f) := by rw [sendRequest_some hr]
    _ = emitRequest f s := (emitRequest_send h.1 h.2.2).symm
    _ = exec j s := (exec_of_encode_tx (encode_of_decodeTx hd) s).symm

/-- A response frame executed in SCAN is the turn of the frame loop of the operation in progress. -/
theorem exec_eq_exec_response {j : Instr} {rest : List Bytes} (hi : i.usesTransport = true)
    (h : s.At i .scan) (hx : s.rxByte = none) (hout : s.out = f :: rest) (hd : decode (.rx f) = .ok j) :
    exec i s = exec j { s with out := rest } := by
  obtain ⟨henc, hwf⟩ := encode_of_decodeRx hd
  obtain ⟨hb, ho, hp⟩ := h
  rw [exec_of_encode_rx henc hwf]
  cases he : i.isExchange with
  | true =>
    have hex : s.exchanging = true := (exchanging_eq_isExchange ho).trans he
    rw [exec_scan_exchange he ⟨hb, ho, hp⟩, exchangeScan_frame hx hout]
    exact (handleResponse_exchanging (s := { s with out := rest }) hb hp hx hex).symm
  | false =>
    obtain ⟨b, rfl⟩ := Instr.eq_inventory_of_not_isExchange hi he
    have hex : s.exchanging = false := exchanging_eq_isExchange ho
    have hcol : s.collecting = true := by simp [State.collecting, ho]
    rw [handleResponse_collecting (s := { s with out := rest }) hb hp hx hex hcol,
      ← inventoryScan_frame hx hout]
    exact execInventory_scan ⟨hb, ho, hp⟩

/-! ### The idle machine -/

/-- All host operations share the handling of BUSY (00_scope.md R8, 60_exceptions.md R290). -/
theorem exec_eq_hostOp (hi : i.isHostOp = true) : ∃ body, ∀ s, exec i s = hostOp i body s := by
  cases i with
  | build | validate | lastframe | rbclr | feed | transact | rdfw | rdmode | wrmode | buzzer | inventory
  | decmode | decnack => exact ⟨_, fun _ => rfl⟩
  | _ => exact nomatch hi

/-- Idle, a host operation is accepted. -/
theorem exec_accepts (hi : i.isHostOp = true) (hb : s.busy = false) : exec i s = .next (s.accept i) := by
  obtain ⟨body, hexec⟩ := exec_eq_hostOp hi
  rw [hexec, hostOp_idle hb]

/-- Idle, a wire frame has no effect (log 2). -/
theorem exec_frame_idle (hi : i.isHostOp = false) (hb : s.busy = false) : exec i s = .next s := by
  have hemit : ∀ g, emitRequest g s = .next s := fun g => by simp [emitRequest, hb]
  have hhandle : ∀ exchange collect, handleResponse exchange collect s = .next s :=
    fun exchange collect => by simp [handleResponse, hb]
  cases i with
  | reqRomver | reqRdmode | reqWrmode | reqInventory | reqBuzzer => exact hemit _
  | rspAck | rspNack | rspUid | rspOther => exact hhandle _ _
  | _ => exact nomatch hi

/-! ### The pulse `done`

While an operation runs, an engine step leaves BUSY set and `done` down, or it is the return. -/

/-- BUSY is set and `done` is down. -/
def State.Running (s : State) : Prop := s.busy = true ∧ s.done = false

/-- What the return of an operation leaves: `done` is raised, BUSY cleared, PHASE is IDLE, nothing is in progress. -/
def State.Returned (s : State) : Prop := s.done = true ∧ s.busy = false ∧ s.phase = .idle ∧ s.op = none

theorem finish_returned (status : Status) (bytes : Bytes) (flag : Bool) (frames : List Bytes) (s : State) :
    (s.finish status bytes flag frames).Returned := ⟨rfl, rfl, rfl, rfl⟩

theorem finishWith_returned (status : Status) (bytes : Bytes) (s : State) :
    (s.finishWith status bytes).Returned := finish_returned ..

/-! #### Steps that go on -/

theorem transmit_running (b : Bytes) (h : s.Running) : (s.transmit b).Running := by
  rcases transmit_cases b s with ⟨-, e⟩ | ⟨-, e⟩ <;> rw [e] <;> exact h

theorem sendRequest_running (h : s.Running) : s.sendRequest.Running := by
  unfold State.sendRequest
  split
  · exact transmit_running _ h
  · exact h

theorem checkDeadline_running (h : s.Running) : s.checkDeadline.Running := by
  rcases checkDeadline_cases s with ⟨-, e⟩ | ⟨-, e⟩ <;> rw [e] <;> exact h

theorem pollByte_running (h : s.Running) : s.pollByte.Running := by
  rcases pollByte_cases s with ⟨-, e⟩ | ⟨b, -, e⟩ <;> rw [e] <;> exact h

theorem exchangeTerminal_running (f : Bytes) (h : s.Running) : (s.exchangeTerminal f).Running := by
  unfold State.exchangeTerminal
  split <;> exact h

theorem exchangeFrame_running (f : Bytes) (h : s.Running) : (s.exchangeFrame f).Running := by
  unfold State.exchangeFrame
  split
  · exact exchangeTerminal_running f h
  · exact h

theorem exchangeScan_running (h : s.Running) : s.exchangeScan.Running := by
  unfold State.exchangeScan
  split
  · exact h
  · exact exchangeFrame_running _ h
  · exact h

theorem wrmodeStart_running (b : Nat) (h : s.Running) : (s.wrmodeStart b).Running := by
  unfold State.wrmodeStart
  split <;> exact h

theorem raceCheck_running (h : s.Running) : s.raceCheck.Running := by
  have hdone : s.afterDone.Running := by rcases afterDone_eq s with e | e <;> rw [e] <;> exact h
  rcases raceCheck_cases s with ⟨-, e⟩ | ⟨-, e⟩ <;> rw [e] <;> exact hdone

theorem inventoryAck_running (f : Bytes) (h : s.Running) : (s.inventoryAck f).Running := by
  unfold State.inventoryAck
  split
  · split <;> exact raceCheck_running h
  · exact raceCheck_running h

theorem inventoryTag_running (f : Bytes) (h : s.Running) : (s.inventoryTag f).Running := by
  unfold State.inventoryTag
  split <;> exact raceCheck_running h

theorem inventoryFrame_running (f : Bytes) (h : s.Running) : (s.inventoryFrame f).Running := by
  unfold State.inventoryFrame
  split
  · exact inventoryAck_running f h
  · split
    · exact h
    · split
      · exact inventoryTag_running f h
      · exact raceCheck_running h

theorem inventoryScan_running (h : s.Running) : s.inventoryScan.Running := by
  unfold State.inventoryScan
  split
  · exact h
  · exact inventoryFrame_running _ h
  · exact h

/-! #### Steps that return -/

theorem transactFinish_returned (s : State) : s.transactFinish.Returned := by
  unfold State.transactFinish
  split <;> exact finishWith_returned ..

theorem concludeExchange_returned {onFrame : Bytes → State → State}
    (hframe : ∀ f u, (onFrame f u).Returned) (s : State) : (s.concludeExchange onFrame).Returned := by
  unfold State.concludeExchange
  split
  · split <;> exact finishWith_returned ..
  · split
    · split
      · exact finishWith_returned ..
      · exact hframe _ s
    · exact finishWith_returned ..

theorem rdfwFrame_returned (f : Bytes) (s : State) : (s.rdfwFrame f).Returned := by
  unfold State.rdfwFrame
  split <;> exact finishWith_returned ..

theorem rdmodeFrame_returned (f : Bytes) (s : State) : (s.rdmodeFrame f).Returned := by
  unfold State.rdmodeFrame
  split <;> exact finishWith_returned ..

theorem ackFrame_returned (f : Bytes) (s : State) : (s.ackFrame f).Returned := by
  unfold State.ackFrame
  split <;> exact finishWith_returned ..

theorem wrmodeFinish_returned (s : State) : s.wrmodeFinish.Returned := by
  unfold State.wrmodeFinish
  split
  · exact finishWith_returned ..
  · exact concludeExchange_returned ackFrame_returned s

theorem inventoryFinish_returned (s : State) : s.inventoryFinish.Returned := by
  unfold State.inventoryFinish
  split <;> exact finishWith_returned ..

/-! #### Every instruction -/

theorem hostOp_running_or_returned {body : State → State} (he : hostOp i body s = .next t)
    (h : s.Running) (hbody : (body s).Running ∨ (body s).Returned) : t.Running ∨ t.Returned := by
  rcases hostOp_cases he with ⟨hb, -⟩ | ⟨-, -, rfl⟩ | ⟨-, -, rfl⟩
  · simp [h.1] at hb
  · exact hbody
  · exact .inl h

theorem pureOp_running_or_returned {start finish : State → State}
    (he : pureOp i start finish s = .next t) (h : s.Running) (hstart : (start s).Running)
    (hfinish : (finish s).Returned) : t.Running ∨ t.Returned := by
  refine hostOp_running_or_returned he h ?_
  cases s.phase with
  | start => exact .inl hstart
  | finish => exact .inr hfinish
  | idle | send | check | poll | backoff | scan => exact .inl h

theorem exchangeOp_running_or_returned {start finish : State → State}
    (he : exchangeOp i start finish s = .next t) (h : s.Running) (hstart : (start s).Running)
    (hfinish : (finish s).Returned) : t.Running ∨ t.Returned := by
  refine hostOp_running_or_returned he h ?_
  cases s.phase with
  | start => exact .inl hstart
  | send => exact .inl (sendRequest_running h)
  | check => exact .inl (checkDeadline_running h)
  | poll => exact .inl (pollByte_running h)
  | scan => exact .inl (exchangeScan_running h)
  | finish => exact .inr hfinish
  | idle | backoff => exact .inl h

theorem execInventory_running_or_returned {b : Nat} (he : execInventory b s = .next t)
    (h : s.Running) : t.Running ∨ t.Returned := by
  refine hostOp_running_or_returned he h ?_
  cases s.phase with
  | send => exact .inl (sendRequest_running h)
  | check => exact .inl (checkDeadline_running h)
  | poll => exact .inl (pollByte_running h)
  | backoff => exact .inl (raceCheck_running h)
  | scan => exact .inl (inventoryScan_running h)
  | finish => exact .inr (inventoryFinish_returned s)
  | idle | start => exact .inl h

theorem emitRequest_running (he : emitRequest f s = .next t) (h : s.Running) : t.Running := by
  unfold emitRequest at he
  split at he <;> cases he
  · exact transmit_running f h
  · exact h

theorem handleResponse_running {exchange collect : State → State}
    (he : handleResponse exchange collect s = .next t) (h : s.Running)
    (hexchange : (exchange s).Running) (hcollect : (collect s).Running) : t.Running := by
  unfold handleResponse at he
  split at he
  · split at he
    · cases he; exact hexchange
    · split at he <;> cases he
      · exact hcollect
      · exact h
  · cases he; exact h

/-- While an operation runs, whatever is executed leaves it running or is its return. -/
theorem exec_running_or_returned (he : exec i s = .next t) (h : s.Running) : t.Running ∨ t.Returned := by
  cases i with
  | build | validate | lastframe | rbclr | feed | decmode | decnack =>
    simp only [exec, execBuild, execValidate, execLastframe, execRbclr, execFeed, execDecmode,
      execDecnack] at he
    exact pureOp_running_or_returned he h h (finish_returned ..)
  | transact => exact exchangeOp_running_or_returned he h h (transactFinish_returned s)
  | rdfw => exact exchangeOp_running_or_returned he h h (concludeExchange_returned rdfwFrame_returned s)
  | rdmode => exact exchangeOp_running_or_returned he h h (concludeExchange_returned rdmodeFrame_returned s)
  | wrmode => exact exchangeOp_running_or_returned he h (wrmodeStart_running _ h) (wrmodeFinish_returned s)
  | buzzer => exact exchangeOp_running_or_returned he h h (concludeExchange_returned ackFrame_returned s)
  | inventory => exact execInventory_running_or_returned he h
  | reqRomver | reqRdmode | reqWrmode | reqInventory | reqBuzzer => exact .inl (emitRequest_running he h)
  | rspAck =>
    exact .inl (handleResponse_running he h (exchangeTerminal_running _ h) (inventoryAck_running _ h))
  | rspNack => exact .inl (handleResponse_running he h (exchangeTerminal_running _ h) h)
  | rspUid => exact .inl (handleResponse_running he h h (inventoryTag_running _ h))
  | rspOther => exact .inl (handleResponse_running he h h (raceCheck_running h))

/-- Idle, no instruction touches `done`. -/
theorem exec_idle_done (hb : s.busy = false) (he : exec i s = .next t) : t.done = s.done := by
  cases hi : i.isHostOp with
  | true => rw [exec_accepts hi hb] at he; cases he; rfl
  | false => rw [exec_frame_idle hi hb] at he; cases he; rfl

/-! #### The step -/

/-- A step that answers a next state ran an instruction, or settled without one. -/
theorem step_cases (h : step s = .next t) :
    (∃ i u, fetch s = .run i u ∧ exec i u = .next t) ∨ fetch s = .settled t := by
  cases hf : fetch s with
  | run i u => exact .inl ⟨i, u, rfl, by rw [← step_run hf]; exact h⟩
  | settled u => rw [step_settled hf] at h; cases h; exact .inr rfl
  | fault r => simp [step, hf] at h
  | refused r => simp [step, hf] at h

/-- What a fetch found, if it goes on, leaves the operation running. -/
def Fetched.Running : Fetched → Prop
  | .run _ s => s.Running
  | .settled s => s.Running
  | .fault _ => True
  | .refused _ => True

theorem fetchOperation_running (h : s.Running) : (fetchOperation s).Running := by
  unfold fetchOperation
  split
  · exact h
  · trivial

theorem fetchSend_running (b : Bytes) (h : s.Running) : (fetchSend b s).Running := by
  unfold fetchSend
  split
  · exact h
  · exact transmit_running b h

theorem fetchFrame_running (f : Bytes) (h : s.Running) : (fetchFrame f s).Running := by
  unfold fetchFrame
  split
  · exact h
  · trivial

theorem fetchBusy_running (h : s.Running) : (fetchBusy s).Running := by
  unfold fetchBusy
  split
  · split
    · exact fetchSend_running _ h
    · exact fetchOperation_running h
  · split
    · exact fetchFrame_running _ h
    · exact fetchOperation_running h
  all_goals exact fetchOperation_running h

theorem fetch_running (hreset : s.resetIn = false) (hb : s.busy = true) : (fetch s).Running := by
  have htick : s.tick.Running := ⟨hb, rfl⟩
  cases hq : s.request with
  | none => rw [fetch_busy hreset hq hb]; exact fetchBusy_running htick
  | some r =>
    have : fetch s = .settled (State.rejectBusy { s.tick with request := none }) := by
      simp [fetch, fetchTicked, hreset, hq, hb]
    rw [this]; exact htick

/-- While BUSY = 1 a step without a reset leaves the operation running or is its return. -/
theorem step_running_or_returned (hreset : s.resetIn = false) (hb : s.busy = true)
    (h : step s = .next t) : t.Running ∨ t.Returned := by
  have hf := fetch_running hreset hb
  rcases step_cases h with ⟨i, u, hrun, he⟩ | hset
  · rw [hrun] at hf; exact exec_running_or_returned he hf
  · rw [hset] at hf; exact .inl hf

/-- What is done with a request at the idle machine: it is run, or refused, or rejected as a reserved op code. -/
theorem fetchRequest_cases (r : Request) (s : State) :
    (∃ i, fetchRequest r s = .run i s) ∨ fetchRequest r s = .settled s.rejectIllegal ∨
      fetchRequest r s = .refused .operandShape := by
  cases hd : decode (.host r) with
  | ok i => exact .inl ⟨i, fetchRequest_ok hd⟩
  | error e =>
    by_cases he : e = .reservedOpCode
    · exact .inr (.inl (fetchRequest_reserved (he ▸ hd)))
    · exact .inr (.inr (fetchRequest_refused hd he))

/-- While BUSY = 0 a step without a reset finds nothing to do, or is what follows from the fetch of one request. -/
theorem step_idle_cases (hreset : s.resetIn = false) (hb : s.busy = false) :
    step s = .next s.tick ∨
      ∃ r u, u.busy = false ∧ u.done = false ∧ fetch s = fetchRequest r u := by
  cases hq : s.request with
  | some r => exact .inr ⟨r, { s.tick with request := none }, hb, rfl, fetch_request hreset hq hb⟩
  | none =>
    cases hp : s.program with
    | nil => exact .inl (step_idle hreset hq hb hp)
    | cons r rest => exact .inr ⟨r, { s.tick with program := rest }, hb, rfl, fetch_program hreset hq hb hp⟩

/-- While BUSY = 0 a step without a reset leaves `done` down, or rejects a reserved op code. -/
theorem step_idle_done (hreset : s.resetIn = false) (hb : s.busy = false) (h : step s = .next t) :
    t.done = false ∨ ∃ u : State, u.busy = false ∧ t = u.rejectIllegal := by
  rcases step_idle_cases hreset hb with htick | ⟨r, u, hub, hud, hf⟩
  · rw [htick] at h; cases h; exact .inl rfl
  · rcases fetchRequest_cases r u with ⟨i, hr⟩ | hr | hr
    · rw [step_run (hf.trans hr)] at h
      exact .inl ((exec_idle_done hub h).trans hud)
    · rw [step_settled (hf.trans hr)] at h; cases h
      exact .inr ⟨u, hub, rfl⟩
    · simp [step, hf, hr] at h

end

/-! ### The statements of 00_scope.md -/

/-- Settles O3: in SEND both levels hand the same bytes to the transport, in SCAN both handle the same frame. -/
theorem wireLevelAgreesWithOperation : Obligations.WireLevelAgreesWithOperation := by
  intro s i hinv ho
  have hat := hinv.standsAt ho
  constructor
  · intro bytes j hp hr hd
    exact exec_eq_exec_request (hinv.usesTransport ho (by simp [hp]) (by simp [hp])) (hp ▸ hat) hr hd
  · intro f rest j hp hx hout hd
    exact exec_eq_exec_response (hinv.usesTransport ho (by simp [hp]) (by simp [hp])) (hp ▸ hat) hx hout hd

/-- Settles O43: a busy step runs on or returns, an idle one raises `done` only by a rejection. -/
theorem doneMarksEveryReturn : Obligations.DoneMarksEveryReturn := by
  intro s t hreset h
  constructor
  · intro hb
    rcases step_running_or_returned hreset hb h with ⟨hbusy, hdone⟩ | ⟨hdone, hbusy, hphase, hop⟩
    · simp [hbusy, hdone]
    · simp [hbusy, hdone, hphase, hop]
  · intro hb hdone
    rcases step_idle_done hreset hb h with hd | ⟨u, hub, rfl⟩
    · simp [hd] at hdone
    · exact ⟨hub, rfl⟩

/-- Settles O1: the port and the program offer a request to the same fetch. -/
theorem stepRunsPresentedRequest : Obligations.StepRunsPresentedRequest := by
  intro s r i hreset hb hd
  constructor
  · intro hq
    exact step_run ((fetch_request hreset hq hb).trans (fetchRequest_ok hd))
  · intro rest hq hp
    exact step_run ((fetch_program hreset hq hb hp).trans (fetchRequest_ok hd))

/-- Settles O7: acceptance is the same for all thirteen host operations. -/
theorem acceptanceStartsTheOperation : Obligations.AcceptanceStartsTheOperation :=
  fun _ _ hi hb => exec_accepts hi hb

end Machine

end Sys2Proof

namespace Sys2Proof

/-! The machine does not know what time it is (10_state.md R36): each function of the model commutes with `State.shiftTime`. -/

namespace Machine

section

variable (c : Nat) (s : State)

/-! ### Fields -/

@[simp] theorem shiftTime_acc : (s.shiftTime c).acc = s.acc := rfl
@[simp] theorem shiftTime_items : (s.shiftTime c).items = s.items := rfl
@[simp] theorem shiftTime_err : (s.shiftTime c).err = s.err := rfl
@[simp] theorem shiftTime_busy : (s.shiftTime c).busy = s.busy := rfl
@[simp] theorem shiftTime_modeRaw : (s.shiftTime c).modeRaw = s.modeRaw := rfl
@[simp] theorem shiftTime_phase : (s.shiftTime c).phase = s.phase := rfl
@[simp] theorem shiftTime_cfg : (s.shiftTime c).cfg = s.cfg := rfl
@[simp] theorem shiftTime_op : (s.shiftTime c).op = s.op := rfl
@[simp] theorem shiftTime_rxByte : (s.shiftTime c).rxByte = s.rxByte := rfl
@[simp] theorem shiftTime_out : (s.shiftTime c).out = s.out := rfl
@[simp] theorem shiftTime_cause : (s.shiftTime c).cause = s.cause := rfl
@[simp] theorem shiftTime_request : (s.shiftTime c).request = s.request := rfl
@[simp] theorem shiftTime_program : (s.shiftTime c).program = s.program := rfl
@[simp] theorem shiftTime_exchanging : (s.shiftTime c).exchanging = s.exchanging := rfl
@[simp] theorem shiftTime_collecting : (s.shiftTime c).collecting = s.collecting := rfl
@[simp] theorem shiftTime_stopsOnTerminal : (s.shiftTime c).stopsOnTerminal = s.stopsOnTerminal := rfl
@[simp] theorem shiftTime_requestBytes : (s.shiftTime c).requestBytes = s.requestBytes := rfl
@[simp] theorem shiftTime_doneSamples : (s.shiftTime c).doneSamples = s.doneSamples := rfl
@[simp] theorem shiftTime_writeAnswer : (s.shiftTime c).env.writeAnswer = s.env.writeAnswer := rfl
@[simp] theorem shiftTime_readAnswer : (s.shiftTime c).env.readAnswer = s.env.readAnswer := rfl
@[simp] theorem shiftTime_deadline : (s.shiftTime c).deadline = s.deadline + c := rfl
@[simp] theorem shiftTime_lastRx : (s.shiftTime c).lastRx = s.lastRx + c := rfl
@[simp] theorem shiftTime_clock : (s.shiftTime c).env.clock = s.env.clock + c := rfl

/-! ### The shared engine steps -/

theorem shiftTime_sampled : (s.shiftTime c).sampled = s.sampled.shiftTime c := by
  simp only [State.shiftTime, State.sampled, Env.afterNow, Env.advance, Nat.add_right_comm]

theorem shiftTime_transmit (b : Bytes) : (s.shiftTime c).transmit b = (s.transmit b).shiftTime c := by
  unfold State.transmit
  rw [shiftTime_writeAnswer]
  split <;> rfl

theorem shiftTime_sendRequest : (s.shiftTime c).sendRequest = s.sendRequest.shiftTime c := by
  unfold State.sendRequest
  rw [shiftTime_requestBytes]
  split
  · exact shiftTime_transmit c s _
  · rfl

/-- Sample and deadline move together, so CHECK compares the same way. -/
theorem shiftTime_checkDeadline : (s.shiftTime c).checkDeadline = s.checkDeadline.shiftTime c := by
  unfold State.checkDeadline
  rw [shiftTime_sampled, shiftTime_deadline, shiftTime_clock]
  simp only [Nat.add_le_add_iff_right]
  split <;> rfl

theorem shiftTime_pollByte : (s.shiftTime c).pollByte = s.pollByte.shiftTime c := by
  unfold State.pollByte
  rw [shiftTime_readAnswer]
  split <;> rfl

/-! ### TRANSACT and its composites -/

/-- The deadline is the sample plus the budget, so it moves with the sample. -/
theorem shiftTime_exchangeStart (b : Nat) :
    (s.shiftTime c).exchangeStart b = (s.exchangeStart b).shiftTime c := by
  unfold State.exchangeStart
  rw [shiftTime_sampled]
  simp only [State.shiftTime, Nat.add_right_comm]

theorem shiftTime_compositeStart (op : OpName) (b : Nat) :
    (s.shiftTime c).compositeStart op b = (s.compositeStart op b).shiftTime c :=
  shiftTime_exchangeStart c (s.note _) b

theorem shiftTime_wrmodeStart (b : Nat) :
    (s.shiftTime c).wrmodeStart b = (s.wrmodeStart b).shiftTime c := by
  unfold State.wrmodeStart
  rw [shiftTime_modeRaw]
  split
  · rfl
  · exact shiftTime_compositeStart c s .wrmode b

theorem shiftTime_exchangeTerminal (f : Bytes) :
    (s.shiftTime c).exchangeTerminal f = (s.exchangeTerminal f).shiftTime c := by
  unfold State.exchangeTerminal
  rw [shiftTime_stopsOnTerminal]
  split <;> rfl

theorem shiftTime_exchangeFrame (f : Bytes) :
    (s.shiftTime c).exchangeFrame f = (s.exchangeFrame f).shiftTime c := by
  unfold State.exchangeFrame
  split
  · exact shiftTime_exchangeTerminal c s f
  · rfl

theorem shiftTime_exchangeScan : (s.shiftTime c).exchangeScan = s.exchangeScan.shiftTime c := by
  unfold State.exchangeScan
  rw [shiftTime_rxByte, shiftTime_out]
  split
  · rfl
  · next f rest _ _ => exact shiftTime_exchangeFrame c { s with out := rest } f
  · rfl

theorem shiftTime_transactFinish : (s.shiftTime c).transactFinish = s.transactFinish.shiftTime c := by
  unfold State.transactFinish
  rw [shiftTime_cause]
  split <;> rfl

theorem shiftTime_rdfwFrame (f : Bytes) (s : State) :
    (s.shiftTime c).rdfwFrame f = (s.rdfwFrame f).shiftTime c := by
  unfold State.rdfwFrame
  split <;> rfl

theorem shiftTime_rdmodeFrame (f : Bytes) (s : State) :
    (s.shiftTime c).rdmodeFrame f = (s.rdmodeFrame f).shiftTime c := by
  unfold State.rdmodeFrame
  split <;> rfl

theorem shiftTime_ackFrame (f : Bytes) (s : State) :
    (s.shiftTime c).ackFrame f = (s.ackFrame f).shiftTime c := by
  unfold State.ackFrame
  split <;> rfl

theorem shiftTime_concludeExchange {onFrame : Bytes → State → State}
    (h : ∀ f u, onFrame f (u.shiftTime c) = (onFrame f u).shiftTime c) :
    (s.shiftTime c).concludeExchange onFrame = (s.concludeExchange onFrame).shiftTime c := by
  unfold State.concludeExchange
  rw [shiftTime_acc, shiftTime_cause, shiftTime_cfg]
  split
  · split <;> rfl
  · split
    · split
      · rfl
      · exact h _ s
    · rfl

theorem shiftTime_wrmodeFinish : (s.shiftTime c).wrmodeFinish = s.wrmodeFinish.shiftTime c := by
  unfold State.wrmodeFinish
  rw [shiftTime_cause]
  split
  · rfl
  · exact shiftTime_concludeExchange c s (shiftTime_ackFrame c)

/-! ### INVENTORY -/

theorem shiftTime_inventoryStart (b : Nat) :
    (s.shiftTime c).inventoryStart b = (s.inventoryStart b).shiftTime c := by
  unfold State.inventoryStart
  rw [shiftTime_sampled]
  simp only [State.shiftTime, State.note, Nat.add_right_comm]

theorem shiftTime_afterDone : (s.shiftTime c).afterDone = s.afterDone.shiftTime c := by
  unfold State.afterDone
  rw [shiftTime_doneSamples, shiftTime_sampled]
  split <;> rfl

/-- The silence is a difference of two times. -/
theorem shiftTime_isDone : (s.shiftTime c).isDone = s.isDone := by
  unfold State.isDone State.silentAt
  rw [shiftTime_sampled, shiftTime_lastRx, shiftTime_clock, Nat.add_sub_add_right]
  rfl

theorem shiftTime_raceCheck : (s.shiftTime c).raceCheck = s.raceCheck.shiftTime c := by
  unfold State.raceCheck
  rw [shiftTime_isDone, shiftTime_afterDone]
  split <;> rfl

theorem raceCheck_of_shiftTime {u v : State} (h : u = v.shiftTime c) :
    u.raceCheck = v.raceCheck.shiftTime c :=
  h ▸ shiftTime_raceCheck c v

theorem shiftTime_inventoryAck (f : Bytes) :
    (s.shiftTime c).inventoryAck f = (s.inventoryAck f).shiftTime c := by
  unfold State.inventoryAck
  split
  · split <;> exact raceCheck_of_shiftTime c rfl
  · exact raceCheck_of_shiftTime c rfl

theorem shiftTime_inventoryTag (f : Bytes) :
    (s.shiftTime c).inventoryTag f = (s.inventoryTag f).shiftTime c := by
  unfold State.inventoryTag
  split <;> exact raceCheck_of_shiftTime c rfl

theorem shiftTime_inventoryFrame (f : Bytes) :
    (s.shiftTime c).inventoryFrame f = (s.inventoryFrame f).shiftTime c := by
  unfold State.inventoryFrame
  split
  · exact shiftTime_inventoryAck c s f
  · split
    · rfl
    · split
      · exact shiftTime_inventoryTag c s f
      · exact raceCheck_of_shiftTime c rfl

theorem shiftTime_inventoryScan : (s.shiftTime c).inventoryScan = s.inventoryScan.shiftTime c := by
  unfold State.inventoryScan
  rw [shiftTime_sampled, shiftTime_rxByte, shiftTime_out]
  split
  · rfl
  · next f rest _ _ => exact shiftTime_inventoryFrame c { s with out := rest } f
  · rfl

theorem shiftTime_inventoryFinish : (s.shiftTime c).inventoryFinish = s.inventoryFinish.shiftTime c := by
  unfold State.inventoryFinish
  rw [shiftTime_items, shiftTime_err]
  split <;> rfl

/-! ### Every instruction -/

theorem shiftTime_hostOp (i : Instr) {body : State → State}
    (h : body (s.shiftTime c) = (body s).shiftTime c) :
    hostOp i body (s.shiftTime c) = mapNext (State.shiftTime c) (hostOp i body s) := by
  unfold hostOp
  rw [h, shiftTime_busy, shiftTime_op]
  split
  · split <;> rfl
  · rfl

theorem shiftTime_pureOp (i : Instr) {start finish : State → State}
    (hs : start (s.shiftTime c) = (start s).shiftTime c)
    (hf : finish (s.shiftTime c) = (finish s).shiftTime c) :
    pureOp i start finish (s.shiftTime c) = mapNext (State.shiftTime c) (pureOp i start finish s) := by
  refine shiftTime_hostOp c s i ?_
  rw [hs, hf, shiftTime_phase]
  split <;> rfl

theorem shiftTime_exchangeOp (i : Instr) {start finish : State → State}
    (hs : start (s.shiftTime c) = (start s).shiftTime c)
    (hf : finish (s.shiftTime c) = (finish s).shiftTime c) :
    exchangeOp i start finish (s.shiftTime c) =
      mapNext (State.shiftTime c) (exchangeOp i start finish s) := by
  refine shiftTime_hostOp c s i ?_
  rw [hs, hf, shiftTime_sendRequest, shiftTime_checkDeadline, shiftTime_pollByte,
    shiftTime_exchangeScan, shiftTime_phase]
  split <;> rfl

theorem shiftTime_execInventory (b : Nat) :
    execInventory b (s.shiftTime c) = mapNext (State.shiftTime c) (execInventory b s) := by
  refine shiftTime_hostOp c s _ ?_
  have hbackoff : (s.shiftTime c).inventoryBackoff = s.inventoryBackoff.shiftTime c :=
    shiftTime_raceCheck c s.slept
  rw [shiftTime_inventoryStart, shiftTime_sendRequest, shiftTime_checkDeadline, shiftTime_pollByte,
    hbackoff, shiftTime_inventoryScan, shiftTime_inventoryFinish, shiftTime_phase]
  split <;> rfl

theorem shiftTime_emitRequest (f : Bytes) :
    emitRequest f (s.shiftTime c) = mapNext (State.shiftTime c) (emitRequest f s) := by
  unfold emitRequest
  rw [shiftTime_transmit, shiftTime_busy, shiftTime_phase]
  split <;> rfl

theorem shiftTime_handleResponse {exchange collect : State → State}
    (he : exchange (s.shiftTime c) = (exchange s).shiftTime c)
    (hc : collect (s.shiftTime c) = (collect s).shiftTime c) :
    handleResponse exchange collect (s.shiftTime c) =
      mapNext (State.shiftTime c) (handleResponse exchange collect s) := by
  unfold handleResponse
  rw [he, hc, shiftTime_busy, shiftTime_phase, shiftTime_rxByte, shiftTime_exchanging,
    shiftTime_collecting]
  split
  · split
    · rfl
    · split <;> rfl
  · rfl

theorem shiftTime_exec (i : Instr) :
    exec i (s.shiftTime c) = mapNext (State.shiftTime c) (exec i s) := by
  cases i with
  | build | validate | lastframe | rbclr | feed | decmode | decnack =>
    simp only [exec, execBuild, execValidate, execLastframe, execRbclr, execFeed, execDecmode, execDecnack]
    exact shiftTime_pureOp c s _ rfl rfl
  | transact =>
    exact shiftTime_exchangeOp c s _ (shiftTime_exchangeStart c s _) (shiftTime_transactFinish c s)
  | rdfw =>
    exact shiftTime_exchangeOp c s _ (shiftTime_compositeStart c s _ _)
      (shiftTime_concludeExchange c s (shiftTime_rdfwFrame c))
  | rdmode =>
    exact shiftTime_exchangeOp c s _ (shiftTime_compositeStart c s _ _)
      (shiftTime_concludeExchange c s (shiftTime_rdmodeFrame c))
  | wrmode =>
    exact shiftTime_exchangeOp c s _ (shiftTime_wrmodeStart c s _) (shiftTime_wrmodeFinish c s)
  | buzzer =>
    exact shiftTime_exchangeOp c s _ (shiftTime_compositeStart c s _ _)
      (shiftTime_concludeExchange c s (shiftTime_ackFrame c))
  | inventory => exact shiftTime_execInventory c s _
  | reqRomver | reqRdmode | reqWrmode | reqInventory | reqBuzzer => exact shiftTime_emitRequest c s _
  | rspAck =>
    exact shiftTime_handleResponse c s (shiftTime_exchangeTerminal c s _) (shiftTime_inventoryAck c s _)
  | rspNack => exact shiftTime_handleResponse c s (shiftTime_exchangeTerminal c s _) rfl
  | rspUid => exact shiftTime_handleResponse c s rfl (shiftTime_inventoryTag c s _)
  | rspOther => exact shiftTime_handleResponse c s rfl (raceCheck_of_shiftTime c rfl)

/-! ### The step -/

/-- What a fetch found, with the state in it changed. -/
def Fetched.map (g : State → State) : Fetched → Fetched
  | .run i s => .run i (g s)
  | .settled s => .settled (g s)
  | .fault r => .fault r
  | .refused r => .refused r

theorem shiftTime_fetchRequest (r : Request) :
    fetchRequest r (s.shiftTime c) = (fetchRequest r s).map (State.shiftTime c) := by
  unfold fetchRequest
  split <;> rfl

theorem shiftTime_fetchSend (b : Bytes) :
    fetchSend b (s.shiftTime c) = (fetchSend b s).map (State.shiftTime c) := by
  unfold fetchSend
  rw [shiftTime_transmit]
  split <;> rfl

theorem shiftTime_fetchFrame (f : Bytes) :
    fetchFrame f (s.shiftTime c) = (fetchFrame f s).map (State.shiftTime c) := by
  unfold fetchFrame
  split <;> rfl

theorem shiftTime_fetchOperation :
    fetchOperation (s.shiftTime c) = (fetchOperation s).map (State.shiftTime c) := by
  unfold fetchOperation
  rw [shiftTime_op]
  split <;> rfl

theorem shiftTime_fetchBusy : fetchBusy (s.shiftTime c) = (fetchBusy s).map (State.shiftTime c) := by
  unfold fetchBusy
  rw [shiftTime_phase, shiftTime_requestBytes, shiftTime_rxByte, shiftTime_out]
  split
  · split
    · exact shiftTime_fetchSend c s _
    · exact shiftTime_fetchOperation c s
  · split
    · next f rest _ _ => exact shiftTime_fetchFrame c { s with out := rest } f
    · exact shiftTime_fetchOperation c s
  all_goals exact shiftTime_fetchOperation c s

theorem shiftTime_fetchIdle : fetchIdle (s.shiftTime c) = (fetchIdle s).map (State.shiftTime c) := by
  unfold fetchIdle
  rw [shiftTime_program]
  split
  · next r rest _ => exact shiftTime_fetchRequest c { s with program := rest } r
  · rfl

/-- Without a reset, which sets DEADLINE and LAST_RX to 0, the fetch does not see the time. -/
theorem shiftTime_fetchTicked (hreset : s.resetIn = false) :
    fetchTicked (s.shiftTime c) = (fetchTicked s).map (State.shiftTime c) := by
  unfold fetchTicked
  have hr : ¬s.resetIn = true := by simp [hreset]
  rw [if_neg hr, if_neg (show ¬(s.shiftTime c).resetIn = true from hr), shiftTime_fetchBusy,
    shiftTime_fetchIdle, shiftTime_request, shiftTime_busy]
  split
  · next r _ =>
    split
    · rfl
    · exact shiftTime_fetchRequest c { s with request := none } r
  · split <;> rfl

end

/-- Settles O51: the fetch finds the same, and what it finds does the same. -/
theorem noRuleSeesAbsoluteTime : Obligations.NoRuleSeesAbsoluteTime := by
  intro s c hreset
  unfold step
  have hfetch : fetch (s.shiftTime c) = (fetch s).map (State.shiftTime c) :=
    shiftTime_fetchTicked c s.tick hreset
  rw [hfetch]
  cases fetch s with
  | run i u => exact shiftTime_exec c u i
  | settled u => rfl
  | fault r => rfl
  | refused r => rfl

end Machine

end Sys2Proof

namespace Sys2Proof

/-! What the fetch finds while an operation is in progress, and the state after reset (10_state.md R32, R42). -/

/-! ### The free keys of MODE_NAME_TABLE (45_translators.md R252) -/

namespace Config

theorem length_pickKeys (choice : Nat → Nat) (n : Nat) (pool : Bytes) :
    (pickKeys choice n pool).length = n := by
  induction n generalizing pool with
  | zero => rfl
  | succ n ih => simp [pickKeys, ih]

/-- From a pool that is large enough, different keys of the pool are picked. -/
theorem pickKeys_nodup_subset (choice : Nat → Nat) (n : Nat) (pool : Bytes) (hpool : pool.Nodup)
    (hn : n ≤ pool.length) : (pickKeys choice n pool).Nodup ∧ pickKeys choice n pool ⊆ pool := by
  induction n generalizing pool with
  | zero => simp [pickKeys]
  | succ n ih =>
    have hlt : choice n % pool.length < pool.length := Nat.mod_lt _ (by omega)
    have hkey : pool.getD (choice n % pool.length) 0 ∈ pool := by simp [List.getD, hlt]
    obtain ⟨hnodup, hsub⟩ := ih (pool.erase (pool.getD (choice n % pool.length) 0)) (hpool.erase _)
      (by rw [List.length_erase_of_mem hkey]; omega)
    rw [pickKeys]
    refine ⟨List.nodup_cons.2 ⟨fun hmem => ?_, hnodup⟩, List.cons_subset.2 ⟨hkey, ?_⟩⟩
    · exact (hpool.mem_erase_iff.1 (hsub hmem)).1 rfl
    · exact List.Subset.trans hsub List.erase_subset

theorem otherKeys_nodup : otherKeys.Nodup := by
  refine List.Nodup.map_on (fun m hm n hn h => ?_) List.nodup_range
  rw [List.mem_range] at hm hn
  have : (m + 1) % 2 ^ 8 = (n + 1) % 2 ^ 8 := congrArg BitVec.toNat h
  omega

theorem modeCommand_notMem_otherKeys : modeCommand ∉ otherKeys := by
  intro h
  obtain ⟨n, hn, h⟩ := List.mem_map.1 h
  rw [List.mem_range] at hn
  have : (n + 1) % 2 ^ 8 = 0 := congrArg BitVec.toNat h
  omega

theorem keys_modeNames : modeNames.map Prod.fst = modeCommand :: pickKeys freeModePick 9 otherKeys := by
  simp [modeNames, Function.comp_def]

end Config

/-- The parameters at their defaults are as the spec demands, whatever the free ones are. -/
theorem Cfg.default_wf : Cfg.default.WF := by
  obtain ⟨hnodup, hsub⟩ := Config.pickKeys_nodup_subset Config.freeModePick 9 Config.otherKeys
    Config.otherKeys_nodup (by simp [Config.otherKeys])
  refine ⟨List.length_take_le _ _, ?_, ?_, List.mem_cons_self⟩
  · rw [← List.length_map Prod.fst]
    show (Config.modeNames.map Prod.fst).length = 10
    rw [Config.keys_modeNames, List.length_cons, Config.length_pickKeys]
  · show (Config.modeNames.map Prod.fst).Nodup
    rw [Config.keys_modeNames]
    exact List.nodup_cons.2 ⟨fun h => Config.modeCommand_notMem_otherKeys (hsub h), hnodup⟩

namespace Machine

/-- Whatever the code of PHASE is, STATUS shows nothing else at reset (10_state.md R35). -/
theorem statusView_reset : State.reset.statusView &&& 0xC7 = 0x00 := by
  have h : ∀ p : BitVec 3,
      (0#2 ++ p ++ BitVec.ofBool false ++ BitVec.ofBool false ++ BitVec.ofBool false : BitVec 8) &&& 0xC7 =
        0x00 := by
    decide
  exact h _

/-- The step runs what the operation in progress fetches. -/
theorem step_of_fetchBusy {s u : State} {i : Instr} (hreset : s.resetIn = false) (hq : s.request = none)
    (hb : s.busy = true) (h : fetchBusy s.tick = .run i u) : step s = exec i u :=
  step_run ((fetch_busy hreset hq hb).trans h)

/-- Settles O2: outside SEND and the frame loop the operation itself is fetched, there a frame is. -/
theorem stepContinuesTheOperation : Obligations.StepContinuesTheOperation := by
  intro s hreset hq
  refine ⟨fun i hb ho hp => ?_, fun bytes hb hp hr => ⟨fun i hd => ?_, fun e hd => ?_⟩,
    fun f rest i hb hp hx hout hd => ?_, fun hb hprog => step_idle hreset hq hb hprog⟩
  · refine step_of_fetchBusy hreset hq hb (.trans ?_ (fetchOperation_some (s := s.tick) ho))
    rcases hp with hp | hp | hp | hp | hp | ⟨hp, hx⟩
    case inr.inr.inr.inr.inr => exact fetchBusy_byte (s := s.tick) hp hx
    all_goals exact fetchBusy_plain (by simp [hp]) (by simp [hp])
  · exact step_of_fetchBusy hreset hq hb
      ((fetchBusy_send (s := s.tick) hp hr).trans (fetchSend_ok hd))
  · exact step_settled ((fetch_busy hreset hq hb).trans
      ((fetchBusy_send (s := s.tick) hp hr).trans (fetchSend_error hd)))
  · exact step_of_fetchBusy hreset hq hb
      ((fetchBusy_frame (s := s.tick) hp hx hout).trans (fetchFrame_ok hd))

/-- Settles O45: the registers are empty at reset; the parameters are well-formed by `Cfg.default_wf`. -/
theorem resetMeetsTheInvariant : Obligations.ResetMeetsTheInvariant where
  left := {
    cfg := Cfg.default_wf
    busyPhase := by simp [State.reset]
    busyOp := by simp [State.reset]
    opHost := nofun
    purePhase := nofun
    rb := .inl rfl
    acc := ⟨[], nofun, rfl⟩
    out := nofun
    rxByte := fun h => absurd rfl h
    outPhase := fun h => absurd rfl h
    haveUid := by simp [State.reset]
    expected := by simp [State.reset]
    modeRaw := by simp [State.reset] }
  right := {
    terminal := nofun
    writeFailed := nofun
    running := fun _ => rfl
    sending := nofun
    nonTerminal := nofun }

/-- Settles O53: the registers are written out in `State.reset`; STATUS holds the free code of PHASE and zeros. -/
theorem resetLeavesTheSpecsValues : Obligations.ResetLeavesTheSpecsValues :=
  ⟨rfl, rfl, rfl, rfl, rfl, rfl, rfl, rfl, rfl, rfl, rfl, rfl, rfl, rfl, rfl, rfl, rfl, rfl, rfl, rfl, rfl, rfl, rfl,
    statusView_reset, rfl⟩

end Machine

end Sys2Proof

namespace Sys2Proof

/-! What one step can do, said once: `EngineStep` for the operation in progress, `PortStep` for the machine. Which register has which writers, and what every step keeps, are read off these two. The trace, which nothing reads, is left open in them. -/

/-- The operations that decode a NACK into RES_NACK: DECNACK and the four composites (10_state.md R33, 43_commandset.md R192). -/
def Instr.decodesNack : Instr → Bool
  | .decnack _ => true
  | .rdfw _ => true
  | .rdmode _ => true
  | .wrmode _ => true
  | .buzzer _ _ _ => true
  | _ => false

namespace Machine

/-! ### The engine step -/

/-- In SCAN the frame `f` is the next to be handled, `rest` the later ones of the same FEED pass. -/
structure State.Handles (s : State) (f : Bytes) (rest : List Bytes) : Prop where
  phase : s.phase = .scan
  rxByte : s.rxByte = none
  out : s.out = f :: rest

/-- What INVENTORY does before a check point: the back-off, or the next frame (44_inventory.md R223 to R226). -/
inductive Collected (s : State) : State → Prop
  | slept (hp : s.phase = .backoff) : Collected s s.slept
  | noted {f : Bytes} {rest : List Bytes} (hf : s.Handles f rest) :
      Collected s (State.note (.recv f) { s with out := rest })
  | counted {f : Bytes} {rest : List Bytes} {n : Nat} (hf : s.Handles f rest) (hn : n ≤ 255) :
      Collected s { State.note (.recv f) { s with out := rest } with expected := (n : Int) }
  | tagged {f : Bytes} {rest : List Bytes} {item : Item} (hf : s.Handles f rest) :
      Collected s (State.addItem item (State.note (.recv f) { s with out := rest }))

/-- What a check point does: it may sample the time, and leaves the loop or goes on with it (44_inventory.md R226, R228). -/
inductive CheckPoint (s : State) : State → Prop
  | leave {e : Env} (he : e = s.env ∨ e = s.env.afterNow) :
      CheckPoint s (State.leaveLoop .collected { s with env := e })
  | goOn {e : Env} (he : e = s.env ∨ e = s.env.afterNow) :
      CheckPoint s (State.continueScan { s with env := e })

/-- What FINISH writes beside RES_STATUS, RES_BYTES, RES_BOOL and RES_FRAMES, MODE_RAW left out. -/
inductive Concluded (s : State) : State → Prop
  | plain {tr : List Event} : Concluded s { s with trace := tr }
  | pretty {raw : Bytes} {p : Pretty} (ho : s.op = some (.decmode raw)) : Concluded s { s with resPretty := p }
  | nack {i : Instr} {n : Nack} {tr : List Event} (ho : s.op = some i) (hi : i.decodesNack = true) :
      Concluded s { s with resNack := n, trace := tr }
  | noTags {tr : List Event} (hc : s.collecting = true) : Concluded s { s with err := .noTags, trace := tr }

/-- What the operation in progress can do in one step from `s`, in the order of the phases of 10_state.md R32. -/
inductive EngineStep (s : State) : State → Prop
  /-- In a phase the operation does not have. -/
  | stay : EngineStep s s
  /-- START of an operation without a port that writes no register there. -/
  | pureStart {i : Instr} (ho : s.op = some i) (hp : s.phase = .start) : EngineStep s { s with phase := .finish }
  /-- START of RBCLR. -/
  | cleared (ho : s.op = some .rbclr) (hp : s.phase = .start) : EngineStep s { s with rb := [], phase := .finish }
  /-- START of FEED. -/
  | fed {b : Byte} (ho : s.op = some (.feed b)) (hp : s.phase = .start) :
      EngineStep s { s.feedByte b with phase := .finish }
  /-- START of TRANSACT and its composites. -/
  | exchangeStart {b : Nat} {tr : List Event} (he : s.exchanging = true) (hp : s.phase = .start) :
      EngineStep s (State.exchangeStart b { s with trace := tr })
  /-- START of WRMODE without its precondition. -/
  | precond {tr : List Event} (he : s.exchanging = true) (hp : s.phase = .start) :
      EngineStep s (State.leaveLoop .precond { s with trace := tr })
  /-- START of INVENTORY. -/
  | inventoryStart {b : Nat} (hc : s.collecting = true) (hp : s.phase = .start) : EngineStep s (s.inventoryStart b)
  /-- SEND, the transport takes the request. -/
  | accepted {b : Bytes} (hp : s.phase = .send) :
      EngineStep s { (s.note (.send b)).written b with phase := .check }
  /-- SEND, the transport refuses the request. -/
  | refused {b : Bytes} (hp : s.phase = .send) : EngineStep s ((s.note (.send b)).written b).writeFailure
  /-- CHECK at or after the deadline. -/
  | late {tr : List Event} (hp : s.phase = .check) :
      EngineStep s { s.sampled with trace := tr, cause := some .timeout, phase := .finish }
  /-- CHECK before the deadline. -/
  | inTime (hp : s.phase = .check) : EngineStep s { s.sampled with phase := .poll }
  /-- POLL without a byte. -/
  | emptyPoll (hp : s.phase = .poll) (hr : s.env.readAnswer = none) :
      EngineStep s { s.polled with phase := .backoff }
  /-- POLL with a byte. -/
  | byteRead {b : Byte} (hp : s.phase = .poll) (hr : s.env.readAnswer = some b) :
      EngineStep s { s.polled with rxByte := some b, phase := .scan }
  /-- BACKOFF of TRANSACT and its composites. -/
  | slept (he : s.exchanging = true) (hp : s.phase = .backoff) : EngineStep s s.exchangeBackoff
  /-- SCAN with neither a byte nor a frame. -/
  | scanned (hp : s.phase = .scan) (hx : s.rxByte = none) (hout : s.out = []) : EngineStep s { s with phase := .check }
  /-- SCAN of TRANSACT and its composites, a byte. -/
  | exchangeByte {b : Byte} (he : s.exchanging = true) (hp : s.phase = .scan) (hx : s.rxByte = some b) :
      EngineStep s (s.feedByte b).continueScan
  /-- SCAN of INVENTORY, a byte. -/
  | inventoryByte {b : Byte} (hc : s.collecting = true) (hp : s.phase = .scan) (hx : s.rxByte = some b) :
      EngineStep s (State.feedByte b { s.sampled with lastRx := s.sampled.env.clock }).continueScan
  /-- SCAN of an operation that neither exchanges nor collects: the frame is lost. -/
  | dropped {f : Bytes} {rest : List Bytes} (hf : s.Handles f rest) : EngineStep s { s with out := rest }
  /-- SCAN of TRANSACT and its composites, a frame that does not end the loop. -/
  | accumulated {f : Bytes} {rest : List Bytes} (he : s.exchanging = true) (hf : s.Handles f rest)
      (hgo : isTerminal f = true → s.stopsOnTerminal = false) :
      EngineStep s (State.accumulate f { s with out := rest }).continueScan
  /-- SCAN of TRANSACT and its composites, a frame that ends the loop. -/
  | terminated {f : Bytes} {rest : List Bytes} (he : s.exchanging = true) (hf : s.Handles f rest)
      (ht : isTerminal f = true) (hstop : s.stopsOnTerminal = true) :
      EngineStep s ((State.accumulate f { s with out := rest }).leaveLoop .terminal)
  /-- SCAN of INVENTORY, a NACK. -/
  | nacked {f : Bytes} {rest : List Bytes} {kind : NackKind} {tr : List Event} (hc : s.collecting = true)
      (hf : s.Handles f rest) :
      EngineStep s (State.leaveLoop .nack { s with out := rest, err := kind.invError, trace := tr })
  /-- BACKOFF of INVENTORY, and SCAN with any other frame. -/
  | checked {u t : State} (hc : s.collecting = true) (hu : Collected s u) (ht : CheckPoint u t) : EngineStep s t
  /-- FINISH of RDMODE after a valid ACK with detail 0x00. -/
  | modeRead {b : Nat} {f : Bytes} {tr : List Event} (ho : s.op = some (.rdmode b)) (hp : s.phase = .finish)
      (hlast : lastFrame s.acc = some f) (hvalid : validateFrame s.cfg.checksStx f = true)
      (hack : isAckWithDetail Config.detRdmode f = true) :
      EngineStep s (State.finishWith .ok [] { s with modeRaw := dataOf f, trace := tr })
  /-- Any other FINISH. -/
  | returned {u : State} {status : Status} {bytes : Bytes} {flag : Bool} {frames : List Bytes}
      (hp : s.phase = .finish) (hu : Concluded s u) : EngineStep s (u.finish status bytes flag frames)

section

variable {s t : State} {i : Instr} {f : Bytes} {rest : List Bytes}

/-! ### Each phase function is an engine step -/

theorem transmit_engineStep (b : Bytes) (hp : s.phase = .send) : EngineStep s (s.transmit b) := by
  rcases transmit_cases b s with ⟨-, e⟩ | ⟨-, e⟩ <;> rw [e]
  · exact .accepted hp
  · exact .refused hp

theorem sendRequest_engineStep (hp : s.phase = .send) : EngineStep s s.sendRequest := by
  unfold State.sendRequest
  split
  · exact transmit_engineStep _ hp
  · exact .stay

theorem checkDeadline_engineStep (hp : s.phase = .check) : EngineStep s s.checkDeadline := by
  rcases checkDeadline_cases s with ⟨-, e⟩ | ⟨-, e⟩ <;> rw [e]
  · exact .late hp
  · exact .inTime hp

theorem pollByte_engineStep (hp : s.phase = .poll) : EngineStep s s.pollByte := by
  rcases pollByte_cases s with ⟨hr, e⟩ | ⟨b, hr, e⟩ <;> rw [e]
  · exact .emptyPoll hp hr
  · exact .byteRead hp hr

theorem exchangeTerminal_engineStep (he : s.exchanging = true) (hf : s.Handles f rest)
    (ht : isTerminal f = true) : EngineStep s (State.exchangeTerminal f { s with out := rest }) := by
  unfold State.exchangeTerminal
  split
  case isTrue h => exact .terminated he hf ht h
  case isFalse h => exact .accumulated he hf fun _ => Bool.eq_false_of_not_eq_true h

theorem exchangeFrame_engineStep (he : s.exchanging = true) (hf : s.Handles f rest) :
    EngineStep s (State.exchangeFrame f { s with out := rest }) := by
  unfold State.exchangeFrame
  split
  case isTrue h => exact exchangeTerminal_engineStep he hf h
  case isFalse h => exact .accumulated he hf fun ht => absurd ht h

theorem exchangeScan_engineStep (he : s.exchanging = true) (hp : s.phase = .scan) :
    EngineStep s s.exchangeScan := by
  unfold State.exchangeScan
  split
  · next hx => exact .exchangeByte he hp hx
  · next hx hout => exact exchangeFrame_engineStep he ⟨hp, hx, hout⟩
  · next hx hout => exact .scanned hp hx hout

theorem raceCheck_checkPoint (s : State) : CheckPoint s s.raceCheck := by
  have hdone : s.afterDone = { s with env := s.env } ∨ s.afterDone = { s with env := s.env.afterNow } :=
    afterDone_eq s
  rcases raceCheck_cases s with ⟨-, e⟩ | ⟨-, e⟩ <;> rw [e] <;> rcases hdone with h | h <;> rw [h]
  · exact .leave (.inl rfl)
  · exact .leave (.inr rfl)
  · exact .goOn (.inl rfl)
  · exact .goOn (.inr rfl)

theorem raceCheck_engineStep {u : State} (hc : s.collecting = true) (hu : Collected s u) :
    EngineStep s u.raceCheck :=
  .checked hc hu (raceCheck_checkPoint u)

/-- An announced count is one byte. -/
theorem tagCountOf_le {n : Nat} (h : tagCountOf f = some n) : n ≤ 255 := by
  unfold tagCountOf at h
  split at h <;> cases h
  have := (byteAt f 5).isLt
  omega

theorem inventoryAck_engineStep (hc : s.collecting = true) (hf : s.Handles f rest) :
    EngineStep s (State.inventoryAck f { s with out := rest }) := by
  unfold State.inventoryAck
  split
  · split
    · next hn => exact raceCheck_engineStep hc (.counted hf (tagCountOf_le hn))
    · exact raceCheck_engineStep hc (.noted hf)
  · exact raceCheck_engineStep hc (.noted hf)

theorem inventoryTag_engineStep (hc : s.collecting = true) (hf : s.Handles f rest) :
    EngineStep s (State.inventoryTag f { s with out := rest }) := by
  unfold State.inventoryTag
  split
  · exact raceCheck_engineStep hc (.tagged hf)
  · exact raceCheck_engineStep hc (.noted hf)

theorem inventoryFrame_engineStep (hc : s.collecting = true) (hf : s.Handles f rest) :
    EngineStep s (State.inventoryFrame f { s with out := rest }) := by
  unfold State.inventoryFrame
  split
  · exact inventoryAck_engineStep hc hf
  · split
    · exact .nacked hc hf
    · split
      · exact inventoryTag_engineStep hc hf
      · exact raceCheck_engineStep hc (.noted hf)

theorem inventoryScan_engineStep (hc : s.collecting = true) (hp : s.phase = .scan) :
    EngineStep s s.inventoryScan := by
  unfold State.inventoryScan
  split
  · next hx => exact .inventoryByte hc hp hx
  · next hx hout => exact inventoryFrame_engineStep hc ⟨hp, hx, hout⟩
  · next hx hout => exact .scanned hp hx hout

/-! ### Each return is an engine step -/

/-- A return that writes nothing but the trace and the result registers. -/
theorem returned_plain {tr : List Event} {status : Status} {bytes : Bytes} {flag : Bool} {frames : List Bytes}
    (hp : s.phase = .finish) :
    EngineStep s (State.finish status bytes flag frames { s with trace := tr }) :=
  .returned hp .plain

theorem badResponse_engineStep (hp : s.phase = .finish) : EngineStep s s.badResponse := returned_plain hp

theorem transactFinish_engineStep (hp : s.phase = .finish) : EngineStep s s.transactFinish := by
  unfold State.transactFinish
  split <;> exact returned_plain hp

theorem rdfwFrame_engineStep (hp : s.phase = .finish) : EngineStep s (s.rdfwFrame f) := by
  unfold State.rdfwFrame
  split
  · exact returned_plain hp
  · exact badResponse_engineStep hp

theorem rdmodeFrame_engineStep {b : Nat} (ho : s.op = some (.rdmode b)) (hp : s.phase = .finish)
    (hlast : lastFrame s.acc = some f) (hvalid : validateFrame s.cfg.checksStx f = true) :
    EngineStep s (s.rdmodeFrame f) := by
  unfold State.rdmodeFrame
  split
  case isTrue hack => exact .modeRead ho hp hlast hvalid hack
  case isFalse => exact badResponse_engineStep hp

theorem ackFrame_engineStep (hp : s.phase = .finish) : EngineStep s (s.ackFrame f) := by
  unfold State.ackFrame
  split
  · exact returned_plain hp
  · exact badResponse_engineStep hp

theorem concludeExchange_engineStep {onFrame : Bytes → State → State} (ho : s.op = some i)
    (hi : i.decodesNack = true) (hp : s.phase = .finish)
    (hframe : ∀ f, lastFrame s.acc = some f → validateFrame s.cfg.checksStx f = true →
      EngineStep s (onFrame f s)) :
    EngineStep s (s.concludeExchange onFrame) := by
  unfold State.concludeExchange
  split
  · split <;> exact returned_plain hp
  · next f hlast =>
    split
    case isTrue hvalid =>
      split
      · exact .returned hp (.nack ho hi)
      · exact hframe f hlast hvalid
    case isFalse => exact badResponse_engineStep hp

theorem wrmodeFinish_engineStep {b : Nat} (ho : s.op = some (.wrmode b)) (hp : s.phase = .finish) :
    EngineStep s s.wrmodeFinish := by
  unfold State.wrmodeFinish
  split
  · exact returned_plain hp
  · exact concludeExchange_engineStep ho rfl hp fun _ _ _ => ackFrame_engineStep hp

theorem inventoryFinish_engineStep (hc : s.collecting = true) (hp : s.phase = .finish) :
    EngineStep s s.inventoryFinish := by
  unfold State.inventoryFinish
  split
  · exact .returned hp (.noTags hc)
  · exact returned_plain hp

/-! ### Executing the operation in progress is an engine step -/

theorem collecting_of_op {b : Nat} (ho : s.op = some (.inventory b)) : s.collecting = true := by
  simp [State.collecting, ho]

theorem hostOp_eq_of_running {body : State → State} (h : hostOp i body s = .next t) (hb : s.busy = true)
    (ho : s.op = some i) : t = body s := by
  rw [hostOp_running hb ho] at h
  cases h; rfl

theorem pureOp_engineStep {start finish : State → State} (h : pureOp i start finish s = .next t)
    (hb : s.busy = true) (ho : s.op = some i)
    (hstart : s.phase = .start → EngineStep s { start s with phase := .finish })
    (hfinish : s.phase = .finish → EngineStep s (finish s)) : EngineStep s t := by
  rw [hostOp_eq_of_running h hb ho]
  split
  · next hp => exact hstart hp
  · next hp => exact hfinish hp
  all_goals exact .stay

theorem exchangeOp_engineStep {start finish : State → State} (h : exchangeOp i start finish s = .next t)
    (hb : s.busy = true) (ho : s.op = some i) (he : s.exchanging = true)
    (hstart : s.phase = .start → EngineStep s (start s))
    (hfinish : s.phase = .finish → EngineStep s (finish s)) : EngineStep s t := by
  rw [hostOp_eq_of_running h hb ho]
  split
  · exact .stay
  · next hp => exact hstart hp
  · next hp => exact sendRequest_engineStep hp
  · next hp => exact checkDeadline_engineStep hp
  · next hp => exact pollByte_engineStep hp
  · next hp => exact .slept he hp
  · next hp => exact exchangeScan_engineStep he hp
  · next hp => exact hfinish hp

theorem execInventory_engineStep {b : Nat} (h : execInventory b s = .next t) (hb : s.busy = true)
    (ho : s.op = some (.inventory b)) : EngineStep s t := by
  have hc := collecting_of_op ho
  rw [hostOp_eq_of_running h hb ho]
  split
  · exact .stay
  · next hp => exact .inventoryStart hc hp
  · next hp => exact sendRequest_engineStep hp
  · next hp => exact checkDeadline_engineStep hp
  · next hp => exact pollByte_engineStep hp
  · next hp => exact raceCheck_engineStep hc (.slept hp)
  · next hp => exact inventoryScan_engineStep hc hp
  · next hp => exact inventoryFinish_engineStep hc hp

theorem wrmodeStart_engineStep {b : Nat} (he : s.exchanging = true) (hp : s.phase = .start) :
    EngineStep s (s.wrmodeStart b) := by
  unfold State.wrmodeStart
  split
  · exact .precond he hp
  · exact .exchangeStart he hp

theorem emitRequest_engineStep (h : emitRequest f s = .next t) : EngineStep s t := by
  unfold emitRequest at h
  split at h <;> cases h
  case isTrue hsend => exact transmit_engineStep f (by simp at hsend; exact hsend.2)
  case isFalse => exact .stay

/-- A response frame does something while an exchange or INVENTORY runs only. -/
theorem handleResponse_none {exchange collect : State → State} (he : s.exchanging = false)
    (hc : s.collecting = false) : handleResponse exchange collect s = .next s := by
  simp [handleResponse, he, hc]

theorem exec_engineStep (h : exec i s = .next t) (hb : s.busy = true) (ho : s.op = some i) :
    EngineStep s t := by
  cases i with
  | build | validate | lastframe =>
    exact pureOp_engineStep h hb ho (.pureStart ho) returned_plain
  | rbclr =>
    simp only [exec, execRbclr] at h
    exact pureOp_engineStep h hb ho (.cleared ho) returned_plain
  | feed => exact pureOp_engineStep h hb ho (.fed ho) returned_plain
  | decmode =>
    simp only [exec, execDecmode] at h
    exact pureOp_engineStep h hb ho (.pureStart ho) fun hp => .returned hp (.pretty ho)
  | decnack =>
    simp only [exec, execDecnack] at h
    exact pureOp_engineStep h hb ho (.pureStart ho) fun hp => .returned hp (.nack ho rfl)
  | transact =>
    have he : s.exchanging = true := exchanging_eq_isExchange ho
    exact exchangeOp_engineStep h hb ho he (.exchangeStart he) transactFinish_engineStep
  | rdfw =>
    have he : s.exchanging = true := exchanging_eq_isExchange ho
    exact exchangeOp_engineStep h hb ho he (.exchangeStart he) fun hp =>
      concludeExchange_engineStep ho rfl hp fun _ _ _ => rdfwFrame_engineStep hp
  | rdmode =>
    have he : s.exchanging = true := exchanging_eq_isExchange ho
    exact exchangeOp_engineStep h hb ho he (.exchangeStart he) fun hp =>
      concludeExchange_engineStep ho rfl hp fun _ => rdmodeFrame_engineStep ho hp
  | wrmode =>
    have he : s.exchanging = true := exchanging_eq_isExchange ho
    exact exchangeOp_engineStep h hb ho he (wrmodeStart_engineStep he) (wrmodeFinish_engineStep ho)
  | buzzer =>
    have he : s.exchanging = true := exchanging_eq_isExchange ho
    exact exchangeOp_engineStep h hb ho he (.exchangeStart he) fun hp =>
      concludeExchange_engineStep ho rfl hp fun _ _ _ => ackFrame_engineStep hp
  | inventory => exact execInventory_engineStep h hb ho
  | reqRomver | reqRdmode | reqWrmode | reqInventory | reqBuzzer => exact emitRequest_engineStep h
  | rspAck | rspNack | rspUid | rspOther =>
    have hnone := (handleResponse_none (exchanging_eq_isExchange ho) (by simp [State.collecting, ho])).symm.trans h
    cases hnone
    exact .stay

/-! ### What the fetch finds while BUSY = 1 is an engine step -/

/-- What was fetched leads to `t`. -/
def Fetched.GoesTo (t : State) : Fetched → Prop
  | .run i u => exec i u = .next t
  | .settled u => t = u
  | .fault _ => False
  | .refused _ => False

theorem goesTo_of_step (h : step s = .next t) : (fetch s).GoesTo t := by
  obtain ⟨i, u, hrun, he⟩ | hset := step_cases h
  · rw [hrun]; exact he
  · rw [hset]; rfl

theorem fetchOperation_engineStep (h : (fetchOperation s).GoesTo t) (hb : s.busy = true) :
    EngineStep s t := by
  unfold fetchOperation at h
  split at h
  · next ho => exact exec_engineStep h hb ho
  · exact h.elim

/-- In SEND the bytes are written, whether they are one of the five request frames or not. -/
theorem fetchSend_engineStep {b : Bytes} (h : (fetchSend b s).GoesTo t) (hb : s.busy = true)
    (hp : s.phase = .send) : EngineStep s t := by
  cases hd : decode (.tx b) with
  | ok i =>
    rw [fetchSend_ok hd] at h
    have he : emitRequest b s = .next t := (exec_of_encode_tx (encode_of_decodeTx hd) s).symm.trans h
    rw [emitRequest_send hb hp] at he
    cases he; exact transmit_engineStep b hp
  | error e =>
    rw [fetchSend_error hd] at h
    cases h; exact transmit_engineStep b hp

/-- In the frame loop of SCAN the frame is handled by the exchange, by INVENTORY, or by nobody. -/
theorem handleResponse_engineStep (hf : s.Handles f rest) (hb : s.busy = true)
    (h : handleResponse (fun u => u.exchangeFrame f) (fun u => u.inventoryFrame f) { s with out := rest } =
      .next t) : EngineStep s t := by
  obtain ⟨hp, hx, hout⟩ := hf
  cases he : s.exchanging with
  | true =>
    rw [handleResponse_exchanging (s := { s with out := rest }) hb hp hx he] at h
    cases h; exact exchangeFrame_engineStep he ⟨hp, hx, hout⟩
  | false =>
    cases hc : s.collecting with
    | true =>
      rw [handleResponse_collecting (s := { s with out := rest }) hb hp hx he hc] at h
      cases h; exact inventoryFrame_engineStep hc ⟨hp, hx, hout⟩
    | false =>
      rw [handleResponse_none (s := { s with out := rest }) he hc] at h
      cases h; exact .dropped ⟨hp, hx, hout⟩

theorem fetchFrame_engineStep (h : (fetchFrame f { s with out := rest }).GoesTo t) (hb : s.busy = true)
    (hf : s.Handles f rest) : EngineStep s t := by
  unfold fetchFrame at h
  split at h
  · next hd =>
    obtain ⟨henc, hwf⟩ := encode_of_decodeRx hd
    exact handleResponse_engineStep hf hb ((exec_of_encode_rx henc hwf _).symm.trans h)
  · exact h.elim

theorem fetchBusy_engineStep (h : (fetchBusy s).GoesTo t) (hb : s.busy = true) : EngineStep s t := by
  unfold fetchBusy at h
  split at h
  · next hp =>
    split at h
    · exact fetchSend_engineStep h hb hp
    · exact fetchOperation_engineStep h hb
  · next hp =>
    split at h
    · next hx hout => exact fetchFrame_engineStep h hb ⟨hp, hx, hout⟩
    · exact fetchOperation_engineStep h hb
  all_goals exact fetchOperation_engineStep h hb

/-! ### The step of the machine -/

/-- What a step without a reset can do from `s`, the state with the pulse `done` and the port's answer of the last step gone and the request it answers taken. -/
inductive PortStep (s : State) : State → Prop
  | nothing (hb : s.busy = false) : PortStep s s
  | illegal (hb : s.busy = false) : PortStep s s.rejectIllegal
  | accept {i : Instr} (hb : s.busy = false) (hi : i.isHostOp = true) (hwf : i.wf = true) :
      PortStep s (s.accept i)
  | turnedAway (hb : s.busy = true) : PortStep s s.rejectBusy
  | engine {t : State} (hb : s.busy = true) (h : EngineStep s t) : PortStep s t

/-- The state a step works on: the pulse and the port's answer are gone, the request it answers is taken. -/
def State.ticked (q : Option Request) (p : List Request) (s : State) : State :=
  { s.tick with request := q, program := p }

/-- What is read from a host request is a well-formed host operation (30_encoding.md R112). -/
theorem decodeHost_isHostOp {r : Request} (h : decodeHost r = .ok i) : i.isHostOp = true ∧ i.wf = true := by
  unfold decodeHost at h
  split at h
  · split at h
    case isTrue hfits => cases h; exact ⟨rfl, hfits⟩
    case isFalse => cases h
  all_goals cases h
  all_goals exact ⟨rfl, rfl⟩

theorem fetchRequest_portStep {r : Request} (h : (fetchRequest r s).GoesTo t) (hb : s.busy = false) :
    PortStep s t := by
  cases hd : decode (.host r) with
  | ok i =>
    rw [fetchRequest_ok hd] at h
    obtain ⟨hi, hwf⟩ := decodeHost_isHostOp hd
    cases (exec_accepts hi hb).symm.trans h
    exact .accept hb hi hwf
  | error e =>
    by_cases he : e = .reservedOpCode
    · rw [fetchRequest_reserved (he ▸ hd)] at h
      cases h; exact .illegal hb
    · rw [fetchRequest_refused hd he] at h
      exact h.elim

/-- What a step without a reset can do. -/
theorem step_portStep (hreset : s.resetIn = false) (h : step s = .next t) :
    ∃ q p, PortStep (s.ticked q p) t := by
  have hgo := goesTo_of_step h
  cases hb : s.busy with
  | true =>
    cases hq : s.request with
    | none =>
      rw [fetch_busy hreset hq hb] at hgo
      exact ⟨s.request, s.program, .engine hb (fetchBusy_engineStep hgo hb)⟩
    | some r =>
      rw [step_busy_request hreset hq hb] at h
      cases h; exact ⟨none, s.program, .turnedAway hb⟩
  | false =>
    cases hq : s.request with
    | some r =>
      rw [fetch_request hreset hq hb] at hgo
      exact ⟨none, s.program, fetchRequest_portStep hgo hb⟩
    | none =>
      cases hp : s.program with
      | nil =>
        rw [step_idle hreset hq hb hp] at h
        cases h; exact ⟨s.request, s.program, .nothing hb⟩
      | cons r rest =>
        rw [fetch_program hreset hq hb hp] at hgo
        exact ⟨s.request, rest, fetchRequest_portStep hgo hb⟩

end

end Machine

end Sys2Proof

namespace Sys2Proof

/-! Which register has which writers: for each register the engine steps that write it are named, and every other one leaves it as it is (10_state.md R21 to R36). -/

namespace Machine

section

variable {s t : State}

/-- No step writes a parameter (10_state.md R34). -/
theorem EngineStep.cfg (h : EngineStep s t) : t.cfg = s.cfg := by
  cases h with
  | checked hc hu ht => cases hu <;> cases ht <;> rfl
  | returned hp hu => cases hu <;> rfl
  | _ => rfl

/-- ITEMS, EXPECTED, ERR, HAVE_UID and LAST_RX are written by INVENTORY only (10_state.md R23 to R26, R28). -/
theorem EngineStep.inventoryRegisters (h : EngineStep s t) (hcol : s.collecting = false) :
    t.items = s.items ∧ t.expected = s.expected ∧ t.err = s.err ∧ t.haveUid = s.haveUid ∧
      t.lastRx = s.lastRx := by
  cases h with
  | inventoryStart hc | inventoryByte hc | nacked hc | checked hc => simp [hcol] at hc
  | refused => exact ⟨rfl, rfl, by simp [hcol], rfl, rfl⟩
  | returned hp hu =>
    cases hu with
    | noTags hc => simp [hcol] at hc
    | _ => exact ⟨rfl, rfl, rfl, rfl, rfl⟩
  | _ => exact ⟨rfl, rfl, rfl, rfl, rfl⟩

/-- ACC is written by TRANSACT and its composites only (10_state.md R22). -/
theorem EngineStep.acc (h : EngineStep s t) (hex : s.exchanging = false) : t.acc = s.acc := by
  cases h with
  | exchangeStart he | accumulated he | terminated he => simp [hex] at he
  | checked hc hu ht => cases hu <;> cases ht <;> rfl
  | returned hp hu => cases hu <;> rfl
  | _ => rfl

/-- DEADLINE is written at START only (10_state.md R27). -/
theorem EngineStep.deadline (h : EngineStep s t) (hstart : s.phase ≠ .start) : t.deadline = s.deadline := by
  cases h with
  | exchangeStart _ hp | inventoryStart _ hp => exact absurd hp hstart
  | checked hc hu ht => cases hu <;> cases ht <;> rfl
  | returned hp hu => cases hu <;> rfl
  | _ => rfl

/-- RB is written by RBCLR, FEED, INVENTORY, TRANSACT and the composites only (10_state.md R21). -/
theorem EngineStep.rb_of_op (h : EngineStep s t) (hclr : s.op ≠ some .rbclr)
    (hfeed : ∀ b, s.op ≠ some (.feed b)) (hex : s.exchanging = false) (hcol : s.collecting = false) :
    t.rb = s.rb := by
  cases h with
  | cleared ho => exact absurd ho hclr
  | fed ho => exact absurd ho (hfeed _)
  | exchangeStart he | exchangeByte he => simp [hex] at he
  | inventoryStart hc | inventoryByte hc => simp [hcol] at hc
  | checked hc hu ht => cases hu <;> cases ht <;> rfl
  | returned hp hu => cases hu <;> rfl
  | _ => rfl

/-- RB is written in START and SCAN only (10_state.md R32). -/
theorem EngineStep.rb_of_phase (h : EngineStep s t) (hstart : s.phase ≠ .start) (hscan : s.phase ≠ .scan) :
    t.rb = s.rb := by
  cases h with
  | cleared _ hp | fed _ hp | exchangeStart _ hp | inventoryStart _ hp => exact absurd hp hstart
  | exchangeByte _ hp | inventoryByte _ hp => exact absurd hp hscan
  | checked hc hu ht => cases hu <;> cases ht <;> rfl
  | returned hp hu => cases hu <;> rfl
  | _ => rfl

/-- The result registers are written at FINISH only (10_state.md R33). -/
theorem EngineStep.results (h : EngineStep s t) (hfinish : s.phase ≠ .finish) :
    t.resBytes = s.resBytes ∧ t.resBool = s.resBool ∧ t.resFrames = s.resFrames ∧ t.resNack = s.resNack ∧
      t.resPretty = s.resPretty ∧ t.resStatus = s.resStatus := by
  cases h with
  | modeRead _ hp | returned hp => exact absurd hp hfinish
  | checked hc hu ht => cases hu <;> cases ht <;> exact ⟨rfl, rfl, rfl, rfl, rfl, rfl⟩
  | _ => exact ⟨rfl, rfl, rfl, rfl, rfl, rfl⟩

/-- RES_PRETTY is written by DECMODE only (10_state.md R33). -/
theorem EngineStep.resPretty (h : EngineStep s t) (hop : ∀ raw, s.op ≠ some (.decmode raw)) :
    t.resPretty = s.resPretty := by
  cases h with
  | checked hc hu ht => cases hu <;> cases ht <;> rfl
  | returned hp hu =>
    cases hu with
    | pretty ho => exact absurd ho (hop _)
    | _ => rfl
  | _ => rfl

/-- RES_NACK is written by DECNACK and the composites only (10_state.md R33). -/
theorem EngineStep.resNack (h : EngineStep s t) (hop : ∀ i, s.op = some i → i.decodesNack = false) :
    t.resNack = s.resNack := by
  cases h with
  | checked hc hu ht => cases hu <;> cases ht <;> rfl
  | returned hp hu =>
    cases hu with
    | nack ho hi => simp [hop _ ho] at hi
    | _ => rfl
  | _ => rfl

theorem isAckWithDetail_iff {detail : Byte} {f : Bytes} :
    isAckWithDetail detail f = true ↔ byteAt f 2 = 0x30 ∧ 1 ≤ frameLen f ∧ byteAt f 4 = detail := by
  simp [isAckWithDetail, detailOf, frameCmd]

/-- MODE_RAW is written by an RDMODE that succeeds only (10_state.md R30, 43_commandset.md R201). -/
theorem EngineStep.modeRaw (h : EngineStep s t) :
    t.modeRaw = s.modeRaw ∨
      ∃ b f, s.op = some (.rdmode b) ∧ s.phase = .finish ∧ lastFrame s.acc = some f ∧
        validateFrame s.cfg.checksStx f = true ∧ isAckWithDetail Config.detRdmode f = true ∧
        t.modeRaw = dataOf f ∧ t.resStatus = .ok ∧ t.resBool = true := by
  cases h with
  | modeRead ho hp hlast hvalid hack => exact .inr ⟨_, _, ho, hp, hlast, hvalid, hack, rfl, rfl, rfl⟩
  | checked hc hu ht => left; cases hu <;> cases ht <;> rfl
  | returned hp hu => left; cases hu <;> rfl
  | _ => exact .inl rfl

/-! ### The environment -/

theorem Collected.env (h : Collected s t) : t.env.clock = s.env.clock ∧ t.env.readQ = s.env.readQ := by
  cases h <;> exact ⟨rfl, rfl⟩

theorem CheckPoint.env (h : CheckPoint s t) : s.env.clock ≤ t.env.clock ∧ t.env.readQ = s.env.readQ := by
  cases h with
  | leave he | goOn he =>
    rcases he with rfl | rfl
    · exact ⟨le_rfl, rfl⟩
    · exact ⟨clock_le_afterNow _, rfl⟩

/-- The answers of `Now()` never decrease (10_state.md R36). -/
theorem EngineStep.clock_le (h : EngineStep s t) : s.env.clock ≤ t.env.clock := by
  cases h with
  | exchangeStart | inventoryStart | late | inTime | inventoryByte => exact clock_le_afterNow s.env
  | checked hc hu ht => exact hu.env.1 ▸ ht.env.1
  | returned hp hu => cases hu <;> exact le_rfl
  | _ => exact le_rfl

/-- The receive stream is read by polls only, and a byte read is the one SCAN will feed (20_memory.md R64, R66). -/
theorem EngineStep.readQ (h : EngineStep s t) :
    t.env.readQ = s.env.readQ ∨
      (s.phase = .poll ∧ t.env.readQ = s.env.readQ.tail ∧
        ∀ b rest, s.env.readQ = some b :: rest → t.rxByte = some b ∧ t.phase = .scan) := by
  cases h with
  | emptyPoll hp hr => exact .inr ⟨hp, rfl, fun b rest hq => by simp [Env.readAnswer, hq] at hr⟩
  | byteRead hp hr =>
    refine .inr ⟨hp, rfl, fun b rest hq => ⟨?_, rfl⟩⟩
    rw [← hr]
    simp [Env.readAnswer, hq]
  | checked hc hu ht => exact .inl (ht.env.2.trans hu.env.2)
  | returned hp hu => left; cases hu <;> rfl
  | _ => exact .inl rfl

end

/-! ### The statements -/

/-- Settles O38: of all engine steps only the successful RDMODE writes MODE_RAW. -/
theorem modeRawIsWrittenOnlyByASuccessfulRdmode : Obligations.ModeRawIsWrittenOnlyByASuccessfulRdmode := by
  intro s t hreset h
  obtain ⟨q, p, h⟩ := step_portStep hreset h
  cases h with
  | engine hb h =>
    obtain h | ⟨b, f, ho, hp, hlast, hvalid, hack, hraw, hres⟩ := h.modeRaw
    · exact .inl h
    · obtain ⟨hcmd, hlen, hdetail⟩ := isAckWithDetail_iff.1 hack
      exact .inr ⟨b, f, ho, hp, hlast, hvalid, hcmd, hlen, hdetail, hraw, hres⟩
  | nothing | illegal | accept | turnedAway => exact .inl rfl

/-- Settles O39: register by register from the engine steps; beside them only the rejection of a reserved op code writes a result. -/
theorem registersHaveTheirWritersOnly : Obligations.RegistersHaveTheirWritersOnly := by
  intro s t h
  cases hreset : s.resetIn with
  | true =>
    rw [step_reset hreset] at h
    cases h
    exact ⟨rfl, nofun⟩
  | false =>
    obtain ⟨q, p, h⟩ := step_portStep hreset h
    cases h with
    | engine hb h =>
      refine ⟨h.cfg, fun _ => ⟨h.inventoryRegisters, h.acc, h.deadline, h.rb_of_op, h.rb_of_phase, ?_,
        h.resPretty, ?_⟩⟩
      · intro hfinish
        obtain ⟨hbytes, hbool, hframes, hnack, hpretty, hstatus⟩ := h.results fun hp => hfinish ⟨hb, hp⟩
        exact ⟨hbytes, hbool, hframes, hnack, hpretty, .inl hstatus⟩
      · intro hdecnack hcomposite hbuzzer
        refine h.resNack fun i ho => ?_
        cases i with
        | decnack f => exact absurd ho (hdecnack f)
        | rdfw b => exact absurd ho (hcomposite b).1
        | rdmode b => exact absurd ho (hcomposite b).2.1
        | wrmode b => exact absurd ho (hcomposite b).2.2
        | buzzer rt st b => exact absurd ho (hbuzzer rt st b)
        | _ => rfl
    | illegal hb =>
      exact ⟨rfl, fun _ => ⟨fun _ => ⟨rfl, rfl, rfl, rfl, rfl⟩, fun _ => rfl, fun _ => rfl, fun _ _ _ _ => rfl,
        fun _ _ => rfl, fun _ => ⟨rfl, rfl, rfl, rfl, rfl, .inr ⟨hb, rfl, rfl⟩⟩, fun _ => rfl, fun _ _ _ => rfl⟩⟩
    | nothing | accept | turnedAway =>
      exact ⟨rfl, fun _ => ⟨fun _ => ⟨rfl, rfl, rfl, rfl, rfl⟩, fun _ => rfl, fun _ => rfl, fun _ _ _ _ => rfl,
        fun _ _ => rfl, fun _ => ⟨rfl, rfl, rfl, rfl, rfl, .inl rfl⟩, fun _ => rfl, fun _ _ _ => rfl⟩⟩

/-- Settles O42: only a sample moves the clock, only a poll reads the stream; a reset touches neither. -/
theorem timeAndReceiveStreamMoveForward : Obligations.TimeAndReceiveStreamMoveForward := by
  intro s t h
  cases hreset : s.resetIn with
  | true =>
    rw [step_reset hreset] at h
    cases h
    exact ⟨le_rfl, .inl rfl⟩
  | false =>
    obtain ⟨q, p, h⟩ := step_portStep hreset h
    cases h with
    | engine hb h =>
      refine ⟨h.clock_le, ?_⟩
      obtain hq | hpoll := h.readQ
      · exact .inl hq
      · exact .inr ⟨hb, hpoll⟩
    | nothing | illegal | accept | turnedAway => exact ⟨le_rfl, .inl rfl⟩

end Machine

end Sys2Proof

namespace Sys2Proof

/-! Every step keeps the invariant of the machine. It has two parts: what the registers hold, and how BUSY, PHASE, the operation in progress and the latches agree. -/

namespace Machine

/-! ### The loop of FEED (41_reassembler.md R155, R157) -/

/-- What is left after the noise before STX is empty or starts with STX. -/
theorem dropWhile_stx_cases (rb : Bytes) :
    rb.dropWhile (· != Config.stx) = [] ∨ byteAt (rb.dropWhile (· != Config.stx)) 0 = Config.stx := by
  induction rb with
  | nil => exact .inl rfl
  | cons b rb ih =>
    rw [List.dropWhile_cons]
    split
    · exact ih
    · next hb => exact .inr (by simpa using hb)

/-- The loop ends at a wait condition, whatever the buffer held, and emits valid frames only. -/
theorem scanBuffer_atWait_isFrame (c : Bool) (n : Nat) (rb : Bytes) (hn : rb.length < n) :
    AtWait (scanBuffer c n rb).1 ∧ ∀ f ∈ (scanBuffer c n rb).2, IsFrame f := by
  induction n generalizing rb with
  | zero => omega
  | succ n ih =>
    rw [scanBuffer_succ]
    have hle := length_dropWhile_stx_le rb
    have hstx := dropWhile_stx_cases rb
    generalize rb.dropWhile (· != Config.stx) = r at hle hstx ⊢
    have hneed := (needOf_bounds r).1
    dsimp only
    split
    case isTrue hshort =>
      refine ⟨?_, nofun⟩
      rcases hstx with h | h
      · exact .inl h
      · exact .inr (.inl ⟨h, Nat.le_of_lt_succ hshort⟩)
    case isFalse hlong =>
      have hhead : byteAt r 0 = Config.stx := by
        rcases hstx with h | h
        · simp [h] at hlong
        · exact h
      split
      case isTrue hwait => exact ⟨.inr (.inr ⟨hhead, Nat.le_of_not_lt hlong, hwait⟩), nofun⟩
      case isFalse hfull =>
        split
        case isTrue hvalid =>
          obtain ⟨hw, hf⟩ := ih (r.drop (needOf r)) (by rw [List.length_drop]; omega)
          refine ⟨hw, List.forall_mem_cons.2 ⟨?_, hf⟩⟩
          rw [IsFrame, ← validateFrame_of_stx (by rw [byteAt_take (by omega)]; exact hhead)]
          exact hvalid
        case isFalse => exact ih (r.drop 1) (by rw [List.length_drop]; omega)

theorem scanAll_atWait (c : Bool) (rb : Bytes) : AtWait (scanAll c rb).1 :=
  (scanBuffer_atWait_isFrame c _ rb (by omega)).1

theorem scanAll_isFrame (c : Bool) (rb : Bytes) : ∀ f ∈ (scanAll c rb).2, IsFrame f :=
  (scanBuffer_atWait_isFrame c _ rb (by omega)).2

theorem atWait_nil : AtWait [] := .inl rfl

/-! ### ACC and MODE_RAW -/

theorem frameSeq_nil : FrameSeq [] := ⟨[], nofun, rfl⟩

theorem frameSeq_append {b f : Bytes} (hb : FrameSeq b) (hf : IsFrame f) : FrameSeq (b ++ f) := by
  obtain ⟨fs, hfs, rfl⟩ := hb
  refine ⟨fs ++ [f], fun g hg => ?_, by simp⟩
  rcases List.mem_append.1 hg with hg | hg
  · exact hfs g hg
  · rw [List.mem_singleton.1 hg]; exact hf

/-- A data section is shorter than the payload one LEN byte announces (30_encoding.md R99). -/
theorem length_dataOf_le (f : Bytes) : (dataOf f).length ≤ 254 := by
  have hlen := List.length_take_le (frameLen f - 1) (f.drop 5)
  have hbyte : frameLen f < 2 ^ 8 := (byteAt f 3).isLt
  rw [dataOf]
  omega

/-! ### The two parts of the invariant -/

/-- What the registers hold. -/
structure State.DataInv (s : State) : Prop where
  cfg : s.cfg.WF
  rb : AtWait s.rb
  acc : FrameSeq s.acc
  out : ∀ f ∈ s.out, IsFrame f
  haveUid : s.haveUid = true ↔ 1 ≤ s.items.length
  expected : -1 ≤ s.expected ∧ s.expected ≤ 255
  modeRaw : s.modeRaw.length ≤ 254

/-- How BUSY, PHASE, the operation in progress and the latches agree. -/
structure State.ControlInv (s : State) : Prop where
  busyPhase : s.busy = true ↔ s.phase ≠ .idle
  busyOp : s.busy = true ↔ s.op.isSome = true
  opHost : ∀ i, s.op = some i → i.isHostOp = true ∧ i.wf = true
  purePhase : ∀ i, s.op = some i → i.isPure = true → s.phase = .start ∨ s.phase = .finish
  rxByte : s.rxByte ≠ none → s.phase = .scan
  outPhase : s.out ≠ [] → s.phase = .scan ∨ (s.phase = .finish ∧ ∃ b, s.op = some (.feed b))

theorem inv_iff {s : State} : s.Inv ↔ s.DataInv ∧ s.ControlInv :=
  ⟨fun h => ⟨{ h with }, { h with }⟩, fun ⟨hd, hc⟩ => { hd, hc with }⟩

section

variable {s t u : State} {f : Bytes} {rest : List Bytes}

/-! ### The registers -/

/-- The frame to be handled is valid, and so are the later ones. -/
theorem State.DataInv.handles (h : s.DataInv) (hf : s.Handles f rest) :
    IsFrame f ∧ ∀ g ∈ rest, IsFrame g := by
  have hout := h.out
  rw [hf.out] at hout
  exact List.forall_mem_cons.1 hout

theorem State.DataInv.feedByte (h : s.DataInv) (b : Byte) : (s.feedByte b).DataInv :=
  { h with
    rb := scanAll_atWait _ _
    out := scanAll_isFrame _ _ }

theorem collected_dataInv (h : s.DataInv) (hu : Collected s u) : u.DataInv := by
  cases hu with
  | slept => exact { h with }
  | noted hf => exact { h with out := (h.handles hf).2 }
  | counted hf hn => exact { h with out := (h.handles hf).2, expected := by dsimp only; omega }
  | tagged hf => exact { h with out := (h.handles hf).2, haveUid := by simp }

theorem checkPoint_dataInv (h : s.DataInv) (ht : CheckPoint s t) : t.DataInv := by
  cases ht with
  | leave => exact { h with out := nofun }
  | goOn => exact { h with }

theorem concluded_dataInv (h : s.DataInv) (hu : Concluded s u) : u.DataInv := by
  cases hu <;> exact { h with }

theorem EngineStep.dataInv (h : EngineStep s t) (hs : s.DataInv) : t.DataInv := by
  cases h with
  | cleared => exact { hs with rb := atWait_nil }
  | fed => exact { hs.feedByte _ with }
  | exchangeByte => exact { hs.feedByte _ with }
  | inventoryByte =>
    exact { State.DataInv.feedByte (s := { s.sampled with lastRx := s.sampled.env.clock }) { hs with } _ with }
  | exchangeStart => exact { hs with rb := atWait_nil, acc := frameSeq_nil }
  | inventoryStart =>
    exact { hs with
      rb := atWait_nil
      haveUid := ⟨nofun, nofun⟩
      expected := ⟨le_rfl, (by decide : (-1 : Int) ≤ 255)⟩ }
  | precond => exact { hs with out := nofun }
  | nacked => exact { hs with out := nofun }
  | dropped hf => exact { hs with out := (hs.handles hf).2 }
  | accumulated _ hf =>
    exact { hs with acc := frameSeq_append hs.acc (hs.handles hf).1, out := (hs.handles hf).2 }
  | terminated _ hf =>
    exact { hs with acc := frameSeq_append hs.acc (hs.handles hf).1, out := nofun }
  | checked _ hu ht => exact checkPoint_dataInv (collected_dataInv hs hu) ht
  | modeRead => exact { hs with modeRaw := length_dataOf_le _, out := nofun }
  | returned _ hu => exact { concluded_dataInv hs hu with out := nofun }
  | stay | pureStart | accepted | refused | late | inTime | emptyPoll | byteRead | slept | scanned =>
    exact { hs with }

/-! ### BUSY, PHASE and the operation in progress -/

/-- After a return nothing is in progress. -/
theorem controlInv_of_returned (h : t.Returned) (hx : t.rxByte = none) (hout : t.out = []) : t.ControlInv := by
  obtain ⟨-, hb, hp, ho⟩ := h
  exact {
    busyPhase := by simp [hb, hp]
    busyOp := by simp [hb, ho]
    opHost := by simp [ho]
    purePhase := by simp [ho]
    rxByte := fun h => absurd hx h
    outPhase := fun h => absurd hout h }

/-- An operation that stands neither at START nor at FINISH uses the transport. -/
theorem State.ControlInv.not_isPure (h : s.ControlInv) (hs : s.phase ≠ .start) (hf : s.phase ≠ .finish) :
    ∀ i, s.op = some i → i.isPure = false := by
  intro i ho
  by_contra hi
  rcases h.purePhase i ho (by simpa using hi) with hp | hp
  · exact hs hp
  · exact hf hp

theorem not_isPure_of_exchanging (h : s.exchanging = true) : ∀ i, s.op = some i → i.isPure = false := by
  intro i ho
  rw [exchanging_eq_isExchange ho] at h
  cases i with
  | transact | rdfw | rdmode | wrmode | buzzer => rfl
  | _ => exact nomatch h

theorem not_isPure_of_collecting (h : s.collecting = true) : ∀ i, s.op = some i → i.isPure = false := by
  intro i ho
  cases i with
  | inventory => rfl
  | _ => simp [State.collecting, ho] at h

/-- An operation in progress goes on to a phase it has, with its latches empty but where they may be full. -/
theorem State.ControlInv.goOn (h : s.ControlInv) (hb : s.busy = true) (hbusy : t.busy = s.busy)
    (hop : t.op = s.op) (hphase : t.phase ≠ .idle)
    (hpure : t.phase = .finish ∨ ∀ i, s.op = some i → i.isPure = false)
    (hx : t.rxByte ≠ none → t.phase = .scan)
    (hout : t.out ≠ [] → t.phase = .scan ∨ (t.phase = .finish ∧ ∃ b, t.op = some (.feed b))) :
    t.ControlInv where
  busyPhase := by simp [hbusy, hb, hphase]
  busyOp := by rw [hbusy, hop]; exact h.busyOp
  opHost := by rw [hop]; exact h.opHost
  purePhase := fun i ho hi => hpure.elim .inr fun hp => by simp [hp i (hop ▸ ho)] at hi
  rxByte := hx
  outPhase := hout

/-- Outside SCAN no byte waits. -/
theorem State.ControlInv.rxByte_eq (h : s.ControlInv) (hs : s.phase ≠ .scan) : s.rxByte = none := by
  by_contra hx
  exact hs (h.rxByte hx)

/-- Outside SCAN and FINISH no frame waits. -/
theorem State.ControlInv.out_eq (h : s.ControlInv) (hs : s.phase ≠ .scan) (hf : s.phase ≠ .finish) :
    s.out = [] := by
  by_contra ho
  rcases h.outPhase ho with hp | ⟨hp, -⟩
  · exact hs hp
  · exact hf hp

/-- A step from a phase in which the latches are empty, which leaves them empty. -/
theorem State.ControlInv.goOn_quiet (h : s.ControlInv) (hb : s.busy = true) (hscan : s.phase ≠ .scan)
    (hfinish : s.phase ≠ .finish) (hbusy : t.busy = s.busy) (hop : t.op = s.op) (hrx : t.rxByte = s.rxByte)
    (hout : t.out = s.out) (hphase : t.phase ≠ .idle)
    (hpure : t.phase = .finish ∨ ∀ i, s.op = some i → i.isPure = false) : t.ControlInv :=
  h.goOn hb hbusy hop hphase hpure (fun hx => absurd (hrx.trans (h.rxByte_eq hscan)) hx)
    fun ho => absurd (hout.trans (h.out_eq hscan hfinish)) ho

/-- A step of SCAN goes on with the frames left, or with CHECK. -/
theorem State.ControlInv.continueScan (h : s.ControlInv) (hb : s.busy = true) (hbusy : u.busy = s.busy)
    (hop : u.op = s.op) (hpure : ∀ i, s.op = some i → i.isPure = false) (hx : u.rxByte = none) :
    u.continueScan.ControlInv := by
  refine h.goOn hb hbusy hop ?_ (.inr hpure) (fun hx' => absurd hx hx') fun ho => .inl ?_
  · rw [continueScan_phase]; split <;> nofun
  · rw [continueScan_phase, if_neg (by simpa using ho)]

/-- A step to FINISH that leaves the latches empty. -/
theorem State.ControlInv.leave (h : s.ControlInv) (hb : s.busy = true) (hbusy : t.busy = s.busy)
    (hop : t.op = s.op) (hp : t.phase = .finish) (hx : t.rxByte = none) (hout : t.out = []) : t.ControlInv :=
  h.goOn hb hbusy hop (by simp [hp]) (.inl hp) (fun hx' => absurd hx hx') fun ho => absurd hout ho

theorem collected_control (h : s.ControlInv) (hu : Collected s u) :
    u.busy = s.busy ∧ u.op = s.op ∧ u.rxByte = none := by
  cases hu with
  | slept hp => exact ⟨rfl, rfl, h.rxByte_eq (by simp [hp])⟩
  | noted hf | counted hf | tagged hf => exact ⟨rfl, rfl, hf.rxByte⟩

theorem checked_controlInv (h : s.ControlInv) (hb : s.busy = true) (hc : s.collecting = true)
    (hu : Collected s u) (ht : CheckPoint u t) : t.ControlInv := by
  obtain ⟨hbusy, hop, hx⟩ := collected_control h hu
  cases ht with
  | leave => exact h.leave hb hbusy hop rfl hx rfl
  | goOn => exact h.continueScan (u := { u with env := _ }) hb hbusy hop (not_isPure_of_collecting hc) hx

theorem EngineStep.controlInv (h : EngineStep s t) (hs : s.ControlInv) (hb : s.busy = true) :
    t.ControlInv := by
  cases h with
  | stay => exact hs
  | pureStart _ hp | cleared _ hp =>
    exact hs.goOn_quiet hb (by simp [hp]) (by simp [hp]) rfl rfl rfl rfl nofun (.inl rfl)
  | fed ho hp =>
    exact hs.goOn hb rfl rfl nofun (.inl rfl) (fun hx => absurd rfl hx) fun _ => .inr ⟨rfl, _, ho⟩
  | exchangeStart he hp =>
    exact hs.goOn_quiet hb (by simp [hp]) (by simp [hp]) rfl rfl rfl rfl nofun
      (.inr (not_isPure_of_exchanging he))
  | precond _ hp => exact hs.leave hb rfl rfl rfl (hs.rxByte_eq (by simp [hp])) rfl
  | inventoryStart hc hp =>
    exact hs.goOn_quiet hb (by simp [hp]) (by simp [hp]) rfl rfl rfl rfl nofun
      (.inr (not_isPure_of_collecting hc))
  | accepted hp | refused hp | late hp | inTime hp | emptyPoll hp | slept _ hp =>
    exact hs.goOn_quiet hb (by simp [hp]) (by simp [hp]) rfl rfl rfl rfl nofun
      (.inr (hs.not_isPure (by simp [hp]) (by simp [hp])))
  | byteRead hp =>
    exact hs.goOn hb rfl rfl nofun (.inr (hs.not_isPure (by simp [hp]) (by simp [hp]))) (fun _ => rfl)
      fun _ => .inl rfl
  | scanned hp hx hout =>
    exact hs.goOn hb rfl rfl nofun (.inr (hs.not_isPure (by simp [hp]) (by simp [hp])))
      (fun hx' => absurd hx hx') fun ho => absurd hout ho
  | exchangeByte he => exact hs.continueScan hb rfl rfl (not_isPure_of_exchanging he) rfl
  | inventoryByte hc => exact hs.continueScan hb rfl rfl (not_isPure_of_collecting hc) rfl
  | dropped hf =>
    exact hs.goOn hb rfl rfl (by simp [hf.phase])
      (.inr (hs.not_isPure (by simp [hf.phase]) (by simp [hf.phase]))) (fun _ => hf.phase)
      fun _ => .inl hf.phase
  | accumulated he hf => exact hs.continueScan hb rfl rfl (not_isPure_of_exchanging he) hf.rxByte
  | terminated _ hf | nacked _ hf => exact hs.leave hb rfl rfl rfl hf.rxByte rfl
  | checked hc hu ht => exact checked_controlInv hs hb hc hu ht
  | modeRead | returned => exact controlInv_of_returned (finish_returned ..) rfl rfl

/-! ### The step of the machine -/

theorem accept_controlInv {i : Instr} (hi : i.isHostOp = true) (hwf : i.wf = true) (s : State) :
    (s.accept i).ControlInv where
  busyPhase := by simp
  busyOp := by simp
  opHost := fun j hj => by cases hj; exact ⟨hi, hwf⟩
  purePhase := fun _ _ _ => .inl rfl
  rxByte := fun hx => absurd rfl hx
  outPhase := fun ho => absurd rfl ho

theorem PortStep.inv (h : PortStep s t) (hs : s.Inv) : t.Inv := by
  cases h with
  | nothing => exact hs
  | illegal | turnedAway => exact { hs with }
  | accept _ hi hwf =>
    exact inv_iff.2 ⟨{ hs with out := nofun }, accept_controlInv hi hwf s⟩
  | engine hb h =>
    obtain ⟨hdata, hcontrol⟩ := inv_iff.1 hs
    exact inv_iff.2 ⟨h.dataInv hdata, h.controlInv hcontrol hb⟩

/-- The reset input keeps the parameters and leaves the rest as at reset. -/
theorem engineReset_inv (hs : s.Inv) : s.engineReset.Inv :=
  { resetMeetsTheInvariant.1 with cfg := hs.cfg }

end

/-- Settles O44: every engine step keeps both parts of the invariant; at the port only an acceptance changes them. -/
theorem stepKeepsTheInvariant : Obligations.StepKeepsTheInvariant := by
  intro s t hs h
  cases hreset : s.resetIn with
  | true =>
    rw [step_reset hreset] at h
    cases h
    exact engineReset_inv { hs with }
  | false =>
    obtain ⟨q, p, h⟩ := step_portStep hreset h
    exact h.inv { hs with }

end Machine

end Sys2Proof

namespace Sys2Proof

/-! `T.write` is called once per run: SEND is the only phase that calls it, and is left in the step that calls it; SEND is entered from START only, START by an acceptance only (20_memory.md R62, 42_transactor.md R182). -/

namespace Machine

section

variable {s t : State} {i : Instr}

/-! ### Which port calls are calls of `T.write` -/

@[simp] theorem writeCount_afterNow (e : Env) : e.afterNow.writeCount = e.writeCount := by
  simp [Env.writeCount, PortCall.isWrite]

@[simp] theorem writeCount_afterRead (ms : Nat) (e : Env) : (e.afterRead ms).writeCount = e.writeCount := by
  simp [Env.writeCount, PortCall.isWrite]

@[simp] theorem writeCount_afterSleep (ms : Nat) (e : Env) : (e.afterSleep ms).writeCount = e.writeCount := by
  simp [Env.writeCount, PortCall.isWrite]

@[simp] theorem writeCount_afterWrite (b : Bytes) (e : Env) : (e.afterWrite b).writeCount = e.writeCount + 1 := by
  simp [Env.writeCount, PortCall.isWrite]

theorem Collected.writeCount (h : Collected s t) : t.env.writeCount = s.env.writeCount := by
  cases h with
  | slept => exact writeCount_afterSleep ..
  | noted | counted | tagged => rfl

theorem CheckPoint.writeCount (h : CheckPoint s t) : t.env.writeCount = s.env.writeCount := by
  cases h with
  | leave he | goOn he =>
    rcases he with rfl | rfl
    · rfl
    · exact writeCount_afterNow _

/-- Outside SEND the engine never calls `T.write` (20_memory.md R62). -/
theorem EngineStep.writeCount (h : EngineStep s t) (hsend : s.phase ≠ .send) :
    t.env.writeCount = s.env.writeCount := by
  cases h with
  | accepted hp | refused hp => exact absurd hp hsend
  | exchangeStart | inventoryStart | late | inTime | inventoryByte => exact writeCount_afterNow _
  | emptyPoll | byteRead => exact writeCount_afterRead ..
  | slept => exact writeCount_afterSleep ..
  | checked _ hu ht => exact ht.writeCount.trans hu.writeCount
  | returned _ hu => cases hu <;> rfl
  | _ => rfl

/-! ### Where the engine enters START and SEND -/

/-- A turn of the frame loop ends in CHECK or SCAN. -/
theorem continueScan_phase_ne (s : State) : s.continueScan.phase ≠ .start ∧ s.continueScan.phase ≠ .send := by
  rw [continueScan_phase]
  split <;> exact ⟨nofun, nofun⟩

theorem CheckPoint.phase_ne (h : CheckPoint s t) : t.phase ≠ .start ∧ t.phase ≠ .send := by
  cases h with
  | leave => exact ⟨nofun, nofun⟩
  | goOn => exact continueScan_phase_ne _

/-- An engine step that changes PHASE never enters START, and enters SEND from START only (10_state.md R32). -/
theorem EngineStep.phase (h : EngineStep s t) :
    t.phase = s.phase ∨ (t.phase ≠ .start ∧ (t.phase = .send → s.phase = .start)) := by
  have never {u : State} (hu : u.phase ≠ .start ∧ u.phase ≠ .send) :
      u.phase ≠ .start ∧ (u.phase = .send → s.phase = .start) :=
    ⟨hu.1, fun hsend => absurd hsend hu.2⟩
  cases h with
  | stay | dropped => exact .inl rfl
  | exchangeStart _ hp | inventoryStart _ hp => exact .inr ⟨nofun, fun _ => hp⟩
  | exchangeByte | inventoryByte | accumulated => exact .inr (never (continueScan_phase_ne _))
  | checked _ _ ht => exact .inr (never ht.phase_ne)
  | _ => exact .inr ⟨nofun, nofun⟩

/-! ### SEND -/

/-- Every operation that uses the transport has bytes to send (30_encoding.md R95 to R100, 42_transactor.md R173). -/
theorem requestBytes_of_usesTransport (hi : i.usesTransport = true) (ho : s.op = some i) :
    ∃ b, s.requestBytes = some b := by
  cases i with
  | transact | rdfw | rdmode | wrmode | buzzer | inventory => simp [State.requestBytes, ho]
  | _ => exact nomatch hi

/-- One call of `T.write`, whatever it answers (42_transactor.md R173, R174). -/
theorem transmit_writes_once (b : Bytes) (s : State) :
    (s.transmit b).env.writeCount = s.env.writeCount + 1 ∧
      ((s.transmit b).phase = .check ∨ (s.transmit b).phase = .finish) := by
  rcases transmit_cases b s with ⟨-, e⟩ | ⟨-, e⟩ <;> rw [e]
  · exact ⟨writeCount_afterWrite .., .inl rfl⟩
  · exact ⟨writeCount_afterWrite .., .inr rfl⟩

/-- In SEND the step hands the bytes to the transport, be they one of the five request frames or not. -/
theorem step_send_transmits {b : Bytes} (hreset : s.resetIn = false) (hq : s.request = none)
    (hb : s.busy = true) (hp : s.phase = .send) (hr : s.requestBytes = some b) :
    step s = .next (s.tick.transmit b) := by
  obtain ⟨-, hsend, -⟩ := stepContinuesTheOperation s hreset hq
  obtain ⟨hframe, hother⟩ := hsend b hb hp hr
  cases hd : decode (.tx b) with
  | ok j =>
    calc step s = exec j s.tick := hframe j hd
      _ = emitRequest b s.tick := exec_of_encode_tx (encode_of_decodeTx hd) s.tick
      _ = .next (s.tick.transmit b) := emitRequest_send hb hp
  | error e => exact hother e hd

/-! ### START -/

/-- All operations without a port share the walk from START to FINISH (10_state.md R32). -/
theorem exec_eq_pureOp (hi : i.isPure = true) : ∃ start finish, ∀ s, exec i s = pureOp i start finish s := by
  cases i with
  | build | validate | lastframe | rbclr | feed | decmode | decnack => exact ⟨_, _, fun _ => rfl⟩
  | _ => exact nomatch hi

theorem pureOp_start {start finish : State → State} (h : s.At i .start) :
    pureOp i start finish s = .next { start s with phase := .finish } := by
  obtain ⟨hb, ho, hp⟩ := h
  simp [pureOp, hostOp_running hb ho, hp]

theorem exchangeOp_start {start finish : State → State} (h : s.At i .start) :
    exchangeOp i start finish s = .next (start s) := by
  obtain ⟨hb, ho, hp⟩ := h
  simp [exchangeOp, hostOp_running hb ho, hp]

theorem execInventory_start {b : Nat} (h : s.At (.inventory b) .start) :
    execInventory b s = .next (s.inventoryStart b) := by
  obtain ⟨hb, ho, hp⟩ := h
  simp [execInventory, hostOp_running hb ho, hp]

theorem wrmodeStart_phase_ne (b : Nat) (s : State) : (s.wrmodeStart b).phase ≠ .start := by
  unfold State.wrmodeStart
  split <;> nofun

/-- Every host operation leaves START in one step (10_state.md R32). -/
theorem exec_leaves_start (hi : i.isHostOp = true) (h : s.At i .start) (he : exec i s = .next t) :
    t.phase ≠ .start := by
  cases hpure : i.isPure with
  | true =>
    obtain ⟨start, finish, hexec⟩ := exec_eq_pureOp hpure
    cases (pureOp_start h).symm.trans ((hexec s).symm.trans he)
    nofun
  | false =>
    have htransport := Instr.usesTransport_of_not_isPure hi hpure
    cases i with
    | transact | rdfw | rdmode | buzzer => cases (exchangeOp_start h).symm.trans he; nofun
    | wrmode b => cases (exchangeOp_start h).symm.trans he; exact wrmodeStart_phase_ne b s
    | inventory => cases (execInventory_start h).symm.trans he; nofun
    | _ => exact nomatch htransport

/-! ### The step of the machine -/

/-- While BUSY = 1 a step without a reset and a request is an engine step. -/
theorem step_engineStep (hreset : s.resetIn = false) (hq : s.request = none) (hb : s.busy = true)
    (h : step s = .next t) : EngineStep s.tick t :=
  fetchBusy_engineStep (fetch_busy hreset hq hb ▸ goesTo_of_step h) hb

/-- While BUSY = 1 no step ends in START: an operation is never begun again (42_transactor.md R182). -/
theorem step_busy_leaves_start (hinv : s.Inv) (hreset : s.resetIn = false) (hq : s.request = none)
    (hb : s.busy = true) (h : step s = .next t) : t.phase ≠ .start := by
  intro hstart
  obtain hsame | ⟨hne, -⟩ := (step_engineStep hreset hq hb h).phase
  · have hp : s.phase = .start := hsame.symm.trans hstart
    obtain ⟨i, ho⟩ := Option.isSome_iff_exists.1 (hinv.busyOp.1 hb)
    obtain ⟨hrun, -⟩ := stepContinuesTheOperation s hreset hq
    exact exec_leaves_start (s := s.tick) (hinv.opHost i ho).1 ⟨hb, ho, hp⟩
      ((hrun i hb ho (.inl hp)).symm.trans h) hstart
  · exact hne hstart

/-- While BUSY = 0 a step without a reset neither calls `T.write` nor enters SEND. -/
theorem step_idle_writes_nothing (hreset : s.resetIn = false) (hb : s.busy = false) (hp : s.phase = .idle)
    (h : step s = .next t) : t.env.writeCount = s.env.writeCount ∧ t.phase ≠ .send := by
  obtain ⟨q, p, h⟩ := step_portStep hreset h
  cases h with
  | nothing | illegal => exact ⟨rfl, fun hsend => absurd (hp.symm.trans hsend) nofun⟩
  | accept => exact ⟨rfl, nofun⟩
  | turnedAway hbusy | engine hbusy => exact nomatch hb.symm.trans hbusy

end

/-- Settles O40: in SEND the step is one transmission; outside it no engine step calls `T.write`, START is left at once and entered by the acceptance alone. -/
theorem oneWritePerRun : Obligations.OneWritePerRun := by
  intro s t hinv hreset hq h
  cases hb : s.busy with
  | false =>
    have hidle : s.phase = .idle := by
      by_contra hp
      exact nomatch hb.symm.trans (hinv.busyPhase.2 hp)
    obtain ⟨hcount, hsend⟩ := step_idle_writes_nothing hreset hb hidle h
    exact ⟨fun hp => absurd (hidle.symm.trans hp) nofun, fun _ => ⟨hcount, fun hp => absurd hp hsend⟩, fun _ => rfl⟩
  | true =>
    have hengine := step_engineStep hreset hq hb h
    refine ⟨fun hp => ?_, fun hp => ⟨hengine.writeCount hp, fun hsend => ?_⟩,
      fun hstart => absurd hstart (step_busy_leaves_start hinv hreset hq hb h)⟩
    · obtain ⟨i, ho⟩ := Option.isSome_iff_exists.1 (hinv.busyOp.1 hb)
      obtain ⟨b, hr⟩ := requestBytes_of_usesTransport
        (hinv.usesTransport ho (by simp [hp]) (by simp [hp])) ho
      cases (step_send_transmits hreset hq hb hp hr).symm.trans h
      exact transmit_writes_once b s.tick
    · obtain hsame | ⟨-, hfrom⟩ := hengine.phase
      · exact absurd (hsame.symm.trans hsend) hp
      · exact hfrom hsend

end Machine

end Sys2Proof

namespace Sys2Proof

/-! Encodings (30_encoding.md): the decoder reads exactly the encodings of the well-formed instructions, each encoding matches its row of the opcode table, and the port turns away what is no instruction. -/

/-! ### Operand ranges (30_encoding.md R91, R105) -/

theorem payloadFits_iff {p : Bytes} : payloadFits p = true ↔ p.length ≤ 255 := by simp [payloadFits]

theorem Instr.wf_reqInventory_iff {addr : Byte} {extra : Bytes} :
    (Instr.reqInventory addr extra).wf = true ↔ extra.length ≤ 254 := by simp [Instr.wf]

theorem Instr.wf_rspOther_iff {addr cmd : Byte} {p : Bytes} :
    (Instr.rspOther addr cmd p).wf = true ↔ isClassified cmd = false ∧ p.length ≤ 255 := by
  simp [Instr.wf, payloadFits_iff]

@[simp] theorem length_wrmodePayload (target flags : Byte) : (wrmodePayload target flags).length = 7 := rfl

@[simp] theorem length_inventoryPayload (extra : Bytes) :
    (inventoryPayload extra).length = extra.length + 1 := rfl

@[simp] theorem length_buzzerPayload (responseType soundType : Byte) :
    (buzzerPayload responseType soundType).length = 2 := rfl

/-! ### From the instruction to its encoding and back -/

/-- A frame built from a payload one LEN byte can announce is valid (40_framecodec.md R131, R134). -/
theorem isFrame_buildFrame (addr cmd : Byte) {p : Bytes} (hp : p.length ≤ 255) :
    IsFrame (buildFrame addr cmd p) := by
  have hneed : needOf (buildFrame addr cmd p) = p.length + 7 := by
    rw [needOf, ← frameLen, frameLen_buildFrame hp]; omega
  have hbody : (frameBody addr cmd p).length = p.length + 5 := length_frameBody addr cmd p
  refine (validateFrame_iff true _).2 ⟨by simp, by simp [hneed], ?etx, ?cr, ?sum, fun _ => rfl⟩
  case etx =>
    rw [length_buildFrame, buildFrame, byteAt_append_left (by omega), frameBody,
      byteAt_append_right (by simp)]
    simp
  case cr => rw [length_buildFrame, buildFrame, byteAt_append_right (by omega)]; simp
  case sum =>
    rw [length_buildFrame, buildFrame, byteAt_append_right (by omega), List.take_left' (by omega)]
    simp

theorem decode_tx_buildFrame (addr cmd : Byte) {p : Bytes} (hp : p.length ≤ 255) :
    decode (.tx (buildFrame addr cmd p)) = requestOfFields addr cmd p := by
  have hvalid : validateFrame true (buildFrame addr cmd p) = true := isFrame_buildFrame addr cmd hp
  simp [decode, decodeTx, hvalid, framePayload_buildFrame hp]

theorem decode_rx_buildFrame (addr cmd : Byte) {p : Bytes} (hp : p.length ≤ 255) :
    decode (.rx (buildFrame addr cmd p)) = .ok (responseOfFields addr cmd p) := by
  have hvalid : validateFrame true (buildFrame addr cmd p) = true := isFrame_buildFrame addr cmd hp
  simp [decode, decodeRx, hvalid, framePayload_buildFrame hp]

/-- A command code without a response row of its own is read as RSP_OTHER (30_encoding.md R105). -/
theorem responseOfFields_of_not_isClassified (addr : Byte) {cmd : Byte} (p : Bytes)
    (hcmd : isClassified cmd = false) : responseOfFields addr cmd p = .rspOther addr cmd p := by
  obtain ⟨hack, hnack, huid⟩ := isClassified_eq_false_iff.1 hcmd
  simp [responseOfFields, hack, hnack, huid]

/-- A well-formed instruction is read back from its encoding. -/
theorem decode_encode {i : Instr} (h : i.wf = true) : decode (encode i) = .ok i := by
  cases i with
  | build => exact if_pos h
  | validate | lastframe | rbclr | feed | transact | rdfw | rdmode | wrmode | buzzer | inventory
  | decmode | decnack => rfl
  | reqRomver | reqRdmode => exact decode_tx_buildFrame _ _ (by decide)
  | reqWrmode | reqBuzzer => exact decode_tx_buildFrame _ _ (by simp)
  | reqInventory =>
    have hextra := Instr.wf_reqInventory_iff.1 h
    exact decode_tx_buildFrame _ _ (by rw [length_inventoryPayload]; omega)
  | rspAck | rspNack | rspUid => exact decode_rx_buildFrame _ _ (payloadFits_iff.1 h)
  | rspOther addr cmd p =>
    obtain ⟨hcmd, hp⟩ := Instr.wf_rspOther_iff.1 h
    rw [encode, decode_rx_buildFrame addr cmd hp, responseOfFields_of_not_isClassified addr p hcmd]

/-! ### From the code to its instruction and back -/

theorem Code.host_eq {r : Request} {op : BitVec 4} {args : List Arg} (hop : r.opCode.toNat = op.toNat)
    (hargs : r.args = args) : Code.host ⟨op, args⟩ = .host r := by
  obtain ⟨opCode, _⟩ := r
  cases hargs
  rw [show opCode = op from BitVec.eq_of_toNat_eq hop]

/-- A host request is the encoding of the operation it is read as (30_encoding.md R112). -/
theorem encode_of_decodeHost {r : Request} {i : Instr} (h : decodeHost r = .ok i) :
    encode i = .host r := by
  unfold decodeHost at h
  split at h
  case h_1 hop hargs =>
    split at h
    case isTrue => cases h; exact Code.host_eq hop hargs
    case isFalse => cases h
  all_goals cases h
  all_goals exact Code.host_eq ‹r.opCode.toNat = _› ‹r.args = _›

/-- A request whose frame is no longer than a frame can be is well formed (30_encoding.md R92, D21). -/
theorem Instr.wf_of_encode_tx {i : Instr} {f : Bytes} (h : encode i = .tx f) (hf : f.length ≤ 262) :
    i.wf = true := by
  cases i with
  | reqRomver | reqRdmode | reqWrmode | reqBuzzer => rfl
  | reqInventory _ extra =>
    cases h
    have hlen : extra.length + 1 + 7 ≤ 262 := by simpa using hf
    exact Instr.wf_reqInventory_iff.2 (by omega)
  | _ => exact nomatch h

theorem IsFrame.length_le {f : Bytes} (h : IsFrame f) : f.length ≤ 262 := by
  obtain ⟨-, hneed, -⟩ := (validateFrame_iff true f).1 h
  exact hneed ▸ (needOf_bounds f).2

theorem isFrame_of_decodeTx {f : Bytes} {i : Instr} (h : decode (.tx f) = .ok i) : IsFrame f := by
  simp only [decode, decodeTx] at h
  split at h
  case isTrue hf => exact hf
  case isFalse => cases h

/-- The decoder reads exactly the encodings of the well-formed instructions. -/
theorem decode_eq_ok_iff {c : Code} {i : Instr} : decode c = .ok i ↔ i.wf = true ∧ encode i = c := by
  constructor
  · intro h
    cases c with
    | host r => exact ⟨(Machine.decodeHost_isHostOp h).2, encode_of_decodeHost h⟩
    | tx f =>
      have henc := encode_of_decodeTx h
      exact ⟨Instr.wf_of_encode_tx henc (isFrame_of_decodeTx h).length_le, henc⟩
    | rx f => exact (encode_of_decodeRx h).symm
  · rintro ⟨hwf, rfl⟩
    exact decode_encode hwf

/-- Settles O49: a code is read as an instruction exactly where it is a well-formed instruction's encoding. -/
theorem decodeAndEncodeAgree : Obligations.DecodeAndEncodeAgree :=
  ⟨fun _ => decode_encode, fun _ _ => decode_eq_ok_iff.1⟩

/-- Settles O59: each code written out is the encoding of a well-formed instruction. -/
theorem writtenOutEncodingsDecode : Obligations.WrittenOutEncodingsDecode := by
  unfold Obligations.WrittenOutEncodingsDecode
  simp only [decode_eq_ok_iff]
  decide

/-! ### The words of the opcode table (30_encoding.md R116) -/

/-- The 40-bit header word of five bytes, the first the most significant. -/
def headerOf (b0 b1 b2 b3 b4 : Byte) : Nat :=
  b0.toNat * 2 ^ 32 + b1.toNat * 2 ^ 24 + b2.toNat * 2 ^ 16 + b3.toNat * 2 ^ 8 + b4.toNat

theorem toNat_append_byte {n : Nat} (x : BitVec n) (b : Byte) :
    (x ++ b).toNat = x.toNat * 2 ^ 8 + b.toNat := by
  rw [BitVec.toNat_append, ← Nat.shiftLeft_add_eq_or_of_lt b.isLt, Nat.shiftLeft_eq]

theorem headerOf_eq_toNat (b0 b1 b2 b3 b4 : Byte) :
    headerOf b0 b1 b2 b3 b4 = (b0 ++ b1 ++ b2 ++ b3 ++ b4).toNat := by
  simp only [headerOf, toNat_append_byte]
  ring

/-- A header word is masked byte by byte. -/
theorem headerOf_and (b0 b1 b2 b3 b4 m0 m1 m2 m3 m4 : Byte) :
    headerOf b0 b1 b2 b3 b4 &&& headerOf m0 m1 m2 m3 m4 =
      headerOf (b0 &&& m0) (b1 &&& m1) (b2 &&& m2) (b3 &&& m3) (b4 &&& m4) := by
  simp only [headerOf_eq_toNat, ← BitVec.toNat_and, BitVec.and_append]

theorem headerWord_buildFrame (addr cmd : Byte) {p : Bytes} (hp : p.length ≤ 255) :
    headerWord (buildFrame addr cmd p) =
      headerOf Config.stx addr cmd (BitVec.ofNat 8 p.length) (byteAt p 0) := by
  rw [headerWord, frameLen_buildFrame hp]
  cases p with
  | nil => rfl
  | cons => rfl

/-- Under the mask 0x00 every byte matches. -/
theorem matches_free (b : Byte) : b &&& 0x00 = 0x00 &&& 0x00 := by simp

/-- A frame matches a row, given by its command, length and detail bytes `c`, `l`, `d` and their masks, where these three bytes match: STX always does, ADDR is free. -/
theorem buildFrame_matches (c l d mc ml md : Byte) {addr cmd : Byte} {p : Bytes} (hp : p.length ≤ 255)
    (hcmd : cmd &&& mc = c &&& mc) (hlen : BitVec.ofNat 8 p.length &&& ml = l &&& ml)
    (hdetail : byteAt p 0 &&& md = d &&& md) :
    headerWord (buildFrame addr cmd p) &&& headerOf 0xFF 0x00 mc ml md =
      headerOf 0x02 0x00 c l d &&& headerOf 0xFF 0x00 mc ml md := by
  rw [headerWord_buildFrame addr cmd hp, headerOf_and, headerOf_and, hcmd, hlen, hdetail, matches_free addr]

/-- Settles O50: an op code is its row's, a frame's header word matches byte by byte. -/
theorem encodingsMatchTheOpcodeTable : Obligations.EncodingsMatchTheOpcodeTable := by
  intro i h
  cases i with
  | build | validate | lastframe | rbclr | feed | transact | rdfw | rdmode | wrmode | buzzer | inventory
  | decmode | decnack => rfl
  | reqRomver =>
    exact buildFrame_matches 0x4F 0x01 0x90 0xFF 0xFF 0xFF (p := romverPayload) (by decide) rfl rfl rfl
  | reqRdmode =>
    exact buildFrame_matches 0x4F 0x01 0x00 0xFF 0xFF 0xFF (p := rdmodePayload) (by decide) rfl rfl rfl
  | reqWrmode =>
    exact buildFrame_matches 0x4E 0x07 0x00 0xFF 0xFF 0x00 (p := wrmodePayload _ _) (by simp) rfl rfl
      (matches_free _)
  | reqInventory =>
    have hextra := Instr.wf_reqInventory_iff.1 h
    exact buildFrame_matches 0x78 0x00 0xF0 0xFF 0x00 0xFF (p := inventoryPayload _)
      (by rw [length_inventoryPayload]; omega) rfl (matches_free _) rfl
  | reqBuzzer =>
    exact buildFrame_matches 0x42 0x02 0x00 0xFF 0xFF 0x00 (p := buzzerPayload _ _) (by simp) rfl rfl
      (matches_free _)
  | rspAck =>
    exact buildFrame_matches 0x30 0x00 0x00 0xFF 0x00 0x00 (payloadFits_iff.1 h) rfl (matches_free _)
      (matches_free _)
  | rspNack =>
    exact buildFrame_matches 0x31 0x00 0x00 0xFF 0x00 0x00 (payloadFits_iff.1 h) rfl (matches_free _)
      (matches_free _)
  | rspUid =>
    exact buildFrame_matches 0x49 0x00 0x00 0xFF 0x00 0x00 (payloadFits_iff.1 h) rfl (matches_free _)
      (matches_free _)
  | rspOther =>
    exact buildFrame_matches 0x00 0x00 0x00 0x00 0x00 0x00 (Instr.wf_rspOther_iff.1 h).2 (matches_free _)
      (matches_free _) (matches_free _)

namespace Machine

/-! ### Requests that are no instruction -/

section

variable {s : State} {r : Request}

/-- The op codes without an operation, whatever the operands (30_encoding.md R113). -/
theorem decode_reserved (h : r.opCode = 0x0 ∨ r.opCode = 0xE ∨ r.opCode = 0xF) :
    decode (.host r) = .error .reservedOpCode := by
  obtain ⟨op, args⟩ := r
  obtain rfl | rfl | rfl : op = 0x0 ∨ op = 0xE ∨ op = 0xF := h
  all_goals simp [decode, decodeHost]

theorem step_refused {e : Refusal} (h : fetch s = .refused e) : step s = .refused e := by
  simp [step, h]

end

/-- Settles O5: BUSY is tested first, then the op code; the port and the program offer a request to the same fetch. -/
theorem reservedOpCodesAreRejected : Obligations.ReservedOpCodesAreRejected := by
  intro s r hreset hop
  have hd := decode_reserved hop
  refine ⟨fun hq hb => ?port, fun rest hq hp hb => ?program, fun hq hb => ?busy⟩
  case port => exact step_settled ((fetch_request hreset hq hb).trans (fetchRequest_reserved hd))
  case program => exact step_settled ((fetch_program hreset hq hb hp).trans (fetchRequest_reserved hd))
  case busy => exact step_busy_request hreset hq hb

/-- Settles O6: the fetch refuses every decoding error but the reserved op code. -/
theorem misshapenRequestsAreRefused : Obligations.MisshapenRequestsAreRefused := by
  refine ⟨fun s r e hreset hb hr hd he => ?refused, fun addr cmd payload hlong => ?tooLong⟩
  case refused =>
    obtain hq | ⟨hq, hhead⟩ := hr
    · exact step_refused ((fetch_request hreset hq hb).trans (fetchRequest_refused hd he))
    · obtain ⟨rest, hp⟩ := List.head?_eq_some_iff.1 hhead
      exact step_refused ((fetch_program hreset hq hb hp).trans (fetchRequest_refused hd he))
  case tooLong =>
    have hfits : ¬payloadFits payload = true := by rw [payloadFits_iff]; omega
    exact if_neg hfits

end Machine

end Sys2Proof

namespace Sys2Proof

/-! FrameCodec (40_framecodec.md): BUILD and VALIDATE agree, SUM8 sees every change of a single byte, and LASTFRAME returns the last whole step of the length walk. -/

/-! ### Bytes and their sum -/

theorem byteAt_take_eq_ite (s : Bytes) (n i : Nat) :
    byteAt (s.take n) i = if i < n then byteAt s i else 0 := by
  split
  case isTrue h => exact byteAt_take h
  case isFalse h => simp [byteAt, h]

/-- Sequences of one length with the same bytes are equal. -/
theorem eq_of_byteAt_eq {s t : Bytes} (hlen : s.length = t.length) (h : ∀ i, byteAt s i = byteAt t i) :
    s = t := by
  refine List.ext_getElem hlen fun i hs ht => ?_
  simpa [byteAt, hs, ht] using h i

/-- Where one byte differs, the sums differ by that difference. -/
theorem sum8_add_byteAt_of_agree {s t : Bytes} {i : Nat} (hlen : s.length = t.length)
    (h : ∀ j, j ≠ i → byteAt s j = byteAt t j) : sum8 s + byteAt t i = sum8 t + byteAt s i := by
  induction s generalizing t i with
  | nil => rw [List.eq_nil_of_length_eq_zero hlen.symm]
  | cons x s ih =>
    obtain _ | ⟨y, t⟩ := t
    · cases hlen
    have htail : s.length = t.length := by simpa using hlen
    cases i with
    | zero =>
      have : s = t := eq_of_byteAt_eq htail fun j => h (j + 1) (by simp)
      subst this
      simp only [sum8_cons, byteAt_cons_zero]
      ac_rfl
    | succ i =>
      have hhead : x = y := h 0 (by simp)
      have hrest := ih (i := i) htail fun j hj => h (j + 1) (by simpa using hj)
      simp only [sum8_cons, byteAt_cons_succ, hhead, BitVec.add_assoc, hrest]

/-- SUM8 sees the change of one byte (40_framecodec.md R135). -/
theorem byteAt_eq_of_sum8_eq {s t : Bytes} {i : Nat} (hlen : s.length = t.length)
    (h : ∀ j, j ≠ i → byteAt s j = byteAt t j) (hsum : sum8 s = sum8 t) : byteAt s i = byteAt t i := by
  have hdiff := sum8_add_byteAt_of_agree hlen h
  rw [hsum] at hdiff
  exact (BitVec.add_right_inj _ |>.1 hdiff).symm

/-- A byte is the sum modulo 256 exactly if its value is (30_encoding.md R93). -/
theorem eq_sum8_iff (b : Byte) (s : Bytes) :
    b = sum8 s ↔ b.toNat = (s.map BitVec.toNat).sum % 256 := by
  rw [sum8_eq_ofNat, ← BitVec.toNat_inj, BitVec.toNat_ofNat]

theorem needOf_eq (s : Bytes) : needOf s = 7 + (byteAt s 3).toNat := by rw [needOf]; omega

theorem needOf_eq_length_of_validateFrame {c : Bool} {f : Bytes} (h : validateFrame c f = true) :
    needOf f = f.length := by
  obtain ⟨-, hneed, -⟩ := (validateFrame_iff c f).1 h
  exact hneed

/-! ### BUILD and VALIDATE -/

/-- Settles O15: a built frame is a frame, and its header gives the three fields back. -/
theorem builtFramesValidate : Obligations.BuiltFramesValidate := by
  constructor
  · intro c addr cmd payload hp
    exact ⟨validateFrame_weaken (isFrame_buildFrame addr cmd hp), rfl, rfl, rfl, frameLen_buildFrame hp,
      framePayload_buildFrame hp, by rw [length_buildFrame]; omega⟩
  · intro a a' c c' p p' hp hp' h
    refine ⟨?addr, ?cmd, ?payload⟩
    case addr => simpa using congrArg frameAddr h
    case cmd => simpa using congrArg frameCmd h
    case payload => simpa [framePayload_buildFrame, hp, hp'] using congrArg framePayload h

/-- Two valid sequences of one length do not differ in one byte only: the sum sees a change in the summed part, and it and CR fix the last two bytes. -/
theorem byteAt_eq_of_validateFrame {c : Bool} {f g : Bytes} {i : Nat} (hf : validateFrame c f = true)
    (hg : validateFrame c g = true) (hlen : g.length = f.length) (hi : i < f.length)
    (h : ∀ j, j ≠ i → byteAt g j = byteAt f j) : byteAt g i = byteAt f i := by
  obtain ⟨hmin, -, -, hcrf, hsumf, -⟩ := (validateFrame_iff c f).1 hf
  obtain ⟨-, -, -, hcrg, hsumg, -⟩ := (validateFrame_iff c g).1 hg
  rw [hlen] at hcrg hsumg
  have hbody : ∀ j, j ≠ i →
      byteAt (g.take (f.length - 2)) j = byteAt (f.take (f.length - 2)) j := by
    intro j hj
    rw [byteAt_take_eq_ite, byteAt_take_eq_ite, h j hj]
  have hbodyLen : (g.take (f.length - 2)).length = (f.take (f.length - 2)).length := by simp [hlen]
  obtain hlt | rfl | rfl : i < f.length - 2 ∨ i = f.length - 2 ∨ i = f.length - 1 := by omega
  · have hsum : sum8 (g.take (f.length - 2)) = sum8 (f.take (f.length - 2)) := by
      rw [← hsumg, ← hsumf, h _ (by omega)]
    simpa [byteAt_take, hlt] using byteAt_eq_of_sum8_eq hbodyLen hbody hsum
  · have : g.take (f.length - 2) = f.take (f.length - 2) := by
      refine eq_of_byteAt_eq hbodyLen fun j => ?_
      by_cases hj : j = f.length - 2
      · simp [byteAt_take_eq_ite, hj]
      · exact hbody j hj
    rw [hsumg, hsumf, this]
  · rw [hcrg, hcrf]

/-- Settles O16: (a) by the sum and CR, (b) by the NACK of code 0x42 with 1 added to ADDR and taken from the code, (c) by LEN. -/
theorem singleByteChangesAreDetected : Obligations.SingleByteChangesAreDetected := by
  refine ⟨fun c f g i hf hlen hi hne h => ?one, ?two, fun c f g hf hlenByte hlen => ?length⟩
  case one =>
    exact Bool.eq_false_iff.2 fun hg => hne (byteAt_eq_of_validateFrame hf hg hlen hi h)
  case two =>
    refine ⟨[0x02, 0x00, 0x31, 0x01, 0x42, 0x03, 0x79, 0x0D],
      [0x02, 0x01, 0x31, 0x01, 0x41, 0x03, 0x79, 0x0D], 1, 4, by decide, by decide, rfl, by decide,
      by decide, by decide, fun k h1 h4 => ?_⟩
    match k with
    | 0 | 2 | 3 => rfl
    | 1 | 4 => contradiction
    | _ + 5 => rfl
  case length =>
    refine Bool.eq_false_iff.2 fun hg => hlen ?_
    have hneedf := needOf_eq_length_of_validateFrame hf
    have hneedg := needOf_eq_length_of_validateFrame hg
    rw [← hneedf, ← hneedg, needOf_eq, needOf_eq, hlenByte]

/-! ### The length walk of LASTFRAME (40_framecodec.md R137) -/

/-- No whole step of the walk: the LEN byte is missing, or announces more than there is. -/
def Incomplete (rest : Bytes) : Prop := rest.length < 4 ∨ rest.length < needOf rest

theorem lastFrameWalk_incomplete {rest : Bytes} (h : Incomplete rest) (fuel : Nat) (last : Option Bytes) :
    lastFrameWalk fuel rest last = last := by
  cases fuel with
  | zero => rfl
  | succ fuel =>
    rw [lastFrameWalk]
    split
    case isTrue => rfl
    case isFalse h4 => exact if_pos (h.resolve_left h4)

theorem lastFrameWalk_step {f : Bytes} (h : needOf f = f.length) (fuel : Nat) (b : Bytes)
    (last : Option Bytes) :
    lastFrameWalk (fuel + 1) (f ++ b) last = lastFrameWalk fuel b (some f) := by
  have h7 : 7 ≤ f.length := h ▸ (needOf_bounds f).1
  have hneed : needOf (f ++ b) = f.length := by rw [needOf_append (by omega), h]
  have hlen : (f ++ b).length = f.length + b.length := List.length_append
  rw [lastFrameWalk, if_neg (by omega), if_neg (by omega), hneed, List.drop_left, List.take_left]

/-- The walk over whole steps and an incomplete rest keeps the last step. -/
theorem lastFrameWalk_flatten {steps : List Bytes} {rest : Bytes}
    (hsteps : ∀ f ∈ steps, needOf f = f.length) (hrest : Incomplete rest) (fuel : Nat)
    (hfuel : (steps.flatten ++ rest).length ≤ fuel) (last : Option Bytes) :
    lastFrameWalk fuel (steps.flatten ++ rest) last = steps.getLast?.or last := by
  induction steps generalizing fuel last with
  | nil => exact lastFrameWalk_incomplete hrest fuel last
  | cons f steps ih =>
    obtain ⟨hf, htail⟩ := List.forall_mem_cons.1 hsteps
    have h7 : 7 ≤ f.length := hf ▸ (needOf_bounds f).1
    rw [List.flatten_cons, List.append_assoc] at hfuel ⊢
    rw [List.length_append] at hfuel
    obtain _ | fuel := fuel
    · omega
    rw [lastFrameWalk_step hf, ih htail fuel (by omega) (some f)]
    simp [List.getLast?_cons]

theorem lastFrame_flatten {steps : List Bytes} {rest : Bytes} (hsteps : ∀ f ∈ steps, needOf f = f.length)
    (hrest : Incomplete rest) : lastFrame (steps.flatten ++ rest) = steps.getLast? := by
  rw [lastFrame, lastFrameWalk_flatten hsteps hrest _ le_rfl, Option.or_none]

/-- Every sequence is whole steps and an incomplete rest. -/
theorem exists_steps_rest (b : Bytes) :
    ∃ (steps : List Bytes) (rest : Bytes), b = steps.flatten ++ rest ∧
      (∀ f ∈ steps, needOf f = f.length) ∧ Incomplete rest := by
  induction hn : b.length using Nat.strong_induction_on generalizing b with
  | _ n ih =>
    by_cases hb : Incomplete b
    · exact ⟨[], b, rfl, by simp, hb⟩
    · obtain ⟨h4, hwhole⟩ : 4 ≤ b.length ∧ needOf b ≤ b.length := by simpa [Incomplete] using hb
      have h7 := (needOf_bounds b).1
      obtain ⟨steps, rest, hdrop, hsteps, hrest⟩ := ih _ (by simp; omega) (b.drop (needOf b)) rfl
      have hstep : needOf (b.take (needOf b)) = (b.take (needOf b)).length := by
        rw [needOf_take (by omega), List.length_take_of_le hwhole]
      refine ⟨b.take (needOf b) :: steps, rest, ?_, List.forall_mem_cons.2 ⟨hstep, hsteps⟩, hrest⟩
      rw [List.flatten_cons, List.append_assoc, ← hdrop, List.take_append_drop]

/-- Settles O17: each valid frame is a whole step, and nothing is left after them. -/
theorem lastFrameOfAFrameSequence : Obligations.LastFrameOfAFrameSequence := by
  intro c fs h
  have hsteps : ∀ f ∈ fs, needOf f = f.length := fun f hf => needOf_eq_length_of_validateFrame (h f hf)
  have hrest : Incomplete [] := .inl (by simp)
  simpa using lastFrame_flatten hsteps hrest

namespace Machine

/-! ### The three operations -/

section

variable {s : State} {start finish : State → State}

/-- An operation without a port, started idle, returns in its third step (10_state.md R32; log 26). -/
theorem exec_returns_of_pureOp (i : Instr) (hexec : exec i = pureOp i start finish) (hb : s.busy = false)
    (hs : ∀ u : State, (start u).busy = u.busy ∧ (start u).op = u.op) :
    ∃ s1 s2, exec i s = .next s1 ∧ exec i s1 = .next s2 ∧
      exec i s2 = .next (finish { start (s.accept i) with phase := .finish }) := by
  rw [hexec]
  exact ⟨_, _, pureOp_steps hb hs⟩

end

/-- Settles O8: SUM8 is the arithmetic sum modulo 256. -/
theorem buildRunsToItsFrame : Obligations.BuildRunsToItsFrame := by
  intro addr cmd payload s hb _ body frame
  have hframe : buildFrame addr cmd payload = frame := by rw [buildFrame, sum8_eq_ofNat]; rfl
  rw [← hframe]
  exact exec_returns_of_pureOp (.build addr cmd payload) rfl hb fun _ => ⟨rfl, rfl⟩

/-- Settles O9: the tests of the function VALIDATE, the sum taken as a number. -/
theorem validateRunsToItsVerdict : Obligations.ValidateRunsToItsVerdict := by
  intro b s hb
  refine ⟨validateFrame s.cfg.checksStx b, ?verdict, ?run⟩
  case verdict => rw [validateFrame_iff, needOf_eq, eq_sum8_iff]
  case run => exact exec_returns_of_pureOp (.validate b) rfl hb fun _ => ⟨rfl, rfl⟩

/-- Settles O10: the steps of the walk are the decomposition, their last one the result. -/
theorem lastframeRunsToTheLastWholeStep : Obligations.LastframeRunsToTheLastWholeStep := by
  intro b s hb
  obtain ⟨steps, rest, hdecomp, hsteps, hrest⟩ := exists_steps_rest b
  have hlast : lastFrame b = steps.getLast? := hdecomp ▸ lastFrame_flatten hsteps hrest
  have hbytes : (lastFrame b).getD [] = steps.getLastD [] := by rw [hlast, List.getLastD_eq_getLast?]
  have hfound : (lastFrame b).isSome = !steps.isEmpty := by
    rw [hlast, Bool.eq_iff_iff]; simp
  refine ⟨steps, rest, hdecomp, fun f hf => ?step, by rwa [Incomplete, needOf_eq] at hrest, ?run⟩
  case step => rw [← needOf_eq, hsteps f hf]
  case run =>
    rw [← hbytes, ← hfound]
    exact exec_returns_of_pureOp (.lastframe b) rfl hb fun _ => ⟨rfl, rfl⟩

end Machine

end Sys2Proof

namespace Sys2Proof

/-! StreamReassembler (41_reassembler.md): a buffer waits, starts with noise, or starts with a candidate. The loop of FEED has one equation for each case, and its laws go by induction on them. -/

/-! ### The three cases of the loop (41_reassembler.md R152) -/

/-- What step 5 of the loop takes: it starts with STX and has the length its LEN byte announces. -/
def IsCandidate (f : Bytes) : Prop := byteAt f 0 = Config.stx ∧ needOf f = f.length

theorem IsFrame.isCandidate {f : Bytes} (h : IsFrame f) : IsCandidate f := by
  obtain ⟨-, hneed, -, -, -, hstx⟩ := (validateFrame_iff true f).1 h
  exact ⟨hstx rfl, hneed⟩

theorem isCandidate_take {rb : Bytes} (hstx : byteAt rb 0 = Config.stx) (hwhole : needOf rb ≤ rb.length) :
    IsCandidate (rb.take (needOf rb)) := by
  have h7 := (needOf_bounds rb).1
  refine ⟨?stx, ?len⟩
  case stx => rw [byteAt_take (by omega), hstx]
  case len => rw [needOf_take (by omega), List.length_take_of_le hwhole]

theorem IsCandidate.length_pos {f : Bytes} (h : IsCandidate f) : 0 < f.length := by
  have h7 := (needOf_bounds f).1
  rw [h.2] at h7
  omega

theorem atWait_iff {rb : Bytes} :
    AtWait rb ↔ rb = [] ∨ (byteAt rb 0 = Config.stx ∧ Incomplete rb) := by
  constructor
  · rintro (h | ⟨hstx, h⟩ | ⟨hstx, -, h⟩)
    · exact .inl h
    · exact .inr ⟨hstx, .inl (by omega)⟩
    · exact .inr ⟨hstx, .inr h⟩
  · rintro (h | ⟨hstx, h⟩)
    · exact .inl h
    · by_cases h4 : rb.length < 4
      · exact .inr (.inl ⟨hstx, by omega⟩)
      · exact .inr (.inr ⟨hstx, by omega, h.resolve_left h4⟩)

/-- At a wait condition one byte fits in a buffer of 262 bytes (41_reassembler.md R158). -/
theorem AtWait.length_le {rb : Bytes} (h : AtWait rb) : rb.length ≤ 261 := by
  have h262 := (needOf_bounds rb).2
  obtain rfl | ⟨-, hshort⟩ | ⟨-, -, hwait⟩ := h
  · exact Nat.zero_le _
  · omega
  · omega

/-- A buffer waits, or starts with a byte to discard, or starts with a candidate. -/
theorem atWait_or_noise_or_candidate (rb : Bytes) :
    AtWait rb ∨ (∃ b rest, b ≠ Config.stx ∧ rb = b :: rest) ∨
      ∃ f rest, IsCandidate f ∧ rb = f ++ rest := by
  obtain _ | ⟨b, rest⟩ := rb
  · exact .inl (.inl rfl)
  by_cases hstx : byteAt (b :: rest) 0 = Config.stx
  · by_cases hwait : Incomplete (b :: rest)
    · exact .inl (atWait_iff.2 (.inr ⟨hstx, hwait⟩))
    · have hwhole : needOf (b :: rest) ≤ (b :: rest).length := Nat.le_of_not_lt (not_or.1 hwait).2
      exact .inr (.inr ⟨_, _, isCandidate_take hstx hwhole, (List.take_append_drop _ _).symm⟩)
  · exact .inr (.inl ⟨b, rest, hstx, rfl⟩)

/-- Induction along the loop: after a candidate it goes on with the rest, or with all but its first byte. -/
theorem scan_induction {P : Bytes → Prop} (wait : ∀ rb, AtWait rb → P rb)
    (noise : ∀ b rb, b ≠ Config.stx → P rb → P (b :: rb))
    (candidate : ∀ f rb, IsCandidate f → P rb → P (f.drop 1 ++ rb) → P (f ++ rb)) (rb : Bytes) : P rb := by
  induction hn : rb.length using Nat.strong_induction_on generalizing rb with
  | _ n ih =>
    subst hn
    obtain h | ⟨b, rest, hb, rfl⟩ | ⟨f, rest, hf, rfl⟩ := atWait_or_noise_or_candidate rb
    · exact wait rb h
    · exact noise b rest hb (ih _ (by simp) rest rfl)
    · have hpos := hf.length_pos
      exact candidate f rest hf (ih _ (by simp; omega) rest rfl) (ih _ (by simp; omega) _ rfl)

namespace Machine

/-! ### One equation for each case -/

theorem scanAll_of_atWait (c : Bool) {rb : Bytes} (h : AtWait rb) : scanAll c rb = (rb, []) := by
  obtain rfl | ⟨hstx, hshort⟩ := atWait_iff.1 h
  · rfl
  · rw [scanAll, scanBuffer_succ, dropWhile_of_stx hstx]
    by_cases h4 : rb.length < 4
    · exact if_pos h4
    · exact (if_neg h4).trans (if_pos (hshort.resolve_left h4))

theorem scanAll_noise (c : Bool) {b : Byte} (hb : b ≠ Config.stx) (rb : Bytes) :
    scanAll c (b :: rb) = scanAll c rb := by
  rw [← scanBuffer_eq_scanAll c ((b :: rb).length + 1) rb (by simp), scanAll, scanBuffer_succ,
    scanBuffer_succ, List.dropWhile_cons_of_pos (by simpa using hb)]

theorem scanAll_candidate (c : Bool) {f : Bytes} (h : IsCandidate f) (rb : Bytes) :
    scanAll c (f ++ rb) =
      if validateFrame c f then ((scanAll c rb).1, f :: (scanAll c rb).2)
      else scanAll c (f.drop 1 ++ rb) := by
  obtain ⟨hstx, hneed⟩ := h
  have h7 := (needOf_bounds f).1
  have hhead : byteAt (f ++ rb) 0 = Config.stx := by rw [byteAt_append_left (by omega), hstx]
  have hwhole : needOf (f ++ rb) = f.length := by rw [needOf_append (by omega), hneed]
  have hlen : (f ++ rb).length = f.length + rb.length := List.length_append
  have hdrop : (f ++ rb).drop 1 = f.drop 1 ++ rb := List.drop_append_of_le_length (by omega)
  rw [scanAll, scanBuffer_succ, dropWhile_of_stx hhead]
  dsimp only
  rw [if_neg (by omega), if_neg (by omega), hwhole, List.take_left, List.drop_left, hdrop,
    scanBuffer_eq_scanAll c _ rb (by omega), scanBuffer_eq_scanAll c _ (f.drop 1 ++ rb) (by simp; omega)]

theorem scanAll_emit {c : Bool} {f : Bytes} (h : IsCandidate f) (hv : validateFrame c f = true) (rb : Bytes) :
    scanAll c (f ++ rb) = ((scanAll c rb).1, f :: (scanAll c rb).2) := by
  rw [scanAll_candidate c h, if_pos hv]

theorem scanAll_fail {c : Bool} {f : Bytes} (h : IsCandidate f) (hv : validateFrame c f = false)
    (rb : Bytes) : scanAll c (f ++ rb) = scanAll c (f.drop 1 ++ rb) := by
  rw [scanAll_candidate c h, if_neg (by simp [hv])]

/-! ### RBCLR and FEED -/

/-- Settles O11: START empties RB, FINISH writes the result. -/
theorem rbclrEmptiesTheBuffer : Obligations.RbclrEmptiesTheBuffer := by
  intro s hb
  exact exec_returns_of_pureOp .rbclr rfl hb fun _ => ⟨rfl, rfl⟩

/-- Settles O12: START runs the loop; the loop has one equation for each case. -/
theorem feedRunsTheReassemblyLoop : Obligations.FeedRunsTheReassemblyLoop := by
  refine ⟨fun b s hb => ?run, fun c => ⟨?empty, ?noise, fun rb hstx hshort => ?wait,
    fun rb hstx _ hwhole => ?candidate⟩⟩
  case run => exact exec_returns_of_pureOp (.feed b) rfl hb fun _ => ⟨rfl, rfl⟩
  case empty => exact scanAll_of_atWait c atWait_nil
  case noise => exact fun b rb hb => scanAll_noise c hb rb
  case wait => exact scanAll_of_atWait c (atWait_iff.2 (.inr ⟨hstx, hshort⟩))
  case candidate =>
    have hcand : IsCandidate (rb.take (needOf rb)) := isCandidate_take hstx hwhole
    have hsplit : rb.take (needOf rb) ++ rb.drop (needOf rb) = rb := List.take_append_drop _ _
    refine ⟨fun hv => ?emit, fun hv => ?fail⟩
    case emit => exact (congrArg (scanAll c) hsplit).symm.trans (scanAll_emit hcand hv _)
    case fail =>
      calc scanAll c rb = scanAll c (rb.take (needOf rb) ++ rb.drop (needOf rb)) := by rw [hsplit]
        _ = scanAll c ((rb.take (needOf rb)).drop 1 ++ rb.drop (needOf rb)) := scanAll_fail hcand hv _
        _ = scanAll c (rb.drop 1) := by
          rw [← List.drop_append_of_le_length hcand.length_pos, hsplit]

/-- Settles O18: the loop ends at a wait condition whatever the buffer holds, and a need is at most 262. -/
theorem waitConditionIsKept : Obligations.WaitConditionIsKept := by
  refine ⟨atWait_nil, fun _ h => h.length_le, fun c rb b h => ⟨?_, scanAll_atWait c _⟩⟩
  rw [List.length_append, List.length_singleton]
  exact Nat.succ_le_succ h.length_le

/-! ### Fragmentation (41_reassembler.md R156) -/

/-- The loop decides from bytes that are all there, so it may run on the front part before the rest arrives. -/
theorem scanAll_append (c : Bool) (rb s : Bytes) :
    scanAll c (rb ++ s) =
      ((scanAll c ((scanAll c rb).1 ++ s)).1,
        (scanAll c rb).2 ++ (scanAll c ((scanAll c rb).1 ++ s)).2) := by
  induction rb using scan_induction with
  | wait rb h => rw [scanAll_of_atWait c h, List.nil_append]
  | noise b rb hb ih => rw [List.cons_append, scanAll_noise c hb, scanAll_noise c hb, ih]
  | candidate f rb hf ihrest ihdrop =>
    rw [List.append_assoc]
    cases hv : validateFrame c f with
    | true => rw [scanAll_emit hf hv, scanAll_emit hf hv, ihrest, List.cons_append]
    | false => rw [scanAll_fail hf hv, scanAll_fail hf hv, ← List.append_assoc, ihdrop]

/-- Feeding byte by byte is one run of the loop, from any buffer as soon as one byte is fed. -/
theorem feedAll_cons (c : Bool) (rb : Bytes) (b : Byte) (s : Bytes) :
    feedAll c rb (b :: s) = scanAll c (rb ++ b :: s) := by
  induction s generalizing rb b with
  | nil => simp [feedAll]
  | cons b' s ih =>
    rw [feedAll, ih, ← scanAll_append, List.append_assoc, List.singleton_append]

/-- Settles O19: an empty sequence leaves the wait condition, any other runs the loop. -/
theorem feedingIsIndependentOfFragmentation : Obligations.FeedingIsIndependentOfFragmentation := by
  intro c rb s h
  cases s with
  | nil => rw [List.append_nil, scanAll_of_atWait c h, feedAll]
  | cons b s => exact feedAll_cons c rb b s

/-! ### The emitted frames as slices (41_reassembler.md R155) -/

/-- The bytes are, in order, a gap before each frame and the frame, then a last gap and the rest. -/
def Slices (b : Bytes) (frames : List Bytes) (rest : Bytes) : Prop :=
  ∃ (gaps : List Bytes) (last : Bytes), gaps.length = frames.length ∧
    b = (List.zipWith (· ++ ·) gaps frames).flatten ++ last ++ rest

section

variable {b rest : Bytes} {frames : List Bytes}

theorem Slices.refl (b : Bytes) : Slices b [] b := ⟨[], [], rfl, rfl⟩

/-- Discarded bytes extend the first gap. -/
theorem Slices.discard (noise : Bytes) (h : Slices b frames rest) : Slices (noise ++ b) frames rest := by
  obtain ⟨gaps, last, hlen, rfl⟩ := h
  match gaps, frames, hlen with
  | [], [], _ => exact ⟨[], noise ++ last, rfl, by simp⟩
  | gap :: gaps, f :: frames, hlen => exact ⟨(noise ++ gap) :: gaps, last, hlen, by simp⟩

theorem Slices.emit (f : Bytes) (h : Slices b frames rest) : Slices (f ++ b) (f :: frames) rest := by
  obtain ⟨gaps, last, hlen, rfl⟩ := h
  exact ⟨[] :: gaps, last, congrArg (· + 1) hlen, by simp⟩

end

theorem scanAll_slices (c : Bool) (rb : Bytes) : Slices rb (scanAll c rb).2 (scanAll c rb).1 := by
  induction rb using scan_induction with
  | wait rb h => rw [scanAll_of_atWait c h]; exact .refl rb
  | noise b rb hb ih => rw [scanAll_noise c hb]; exact ih.discard [b]
  | candidate f rb hf ihrest ihdrop =>
    cases hv : validateFrame c f with
    | true => rw [scanAll_emit hf hv]; exact ihrest.emit f
    | false =>
      rw [scanAll_fail hf hv]
      simpa only [← List.append_assoc, List.take_append_drop] using ihdrop.discard (f.take 1)

/-- Settles O20: feeding a nonempty sequence is one run of the loop, whose emissions are slices. -/
theorem emittedFramesAreDisjointSlices : Obligations.EmittedFramesAreDisjointSlices := by
  intro c rb s
  suffices h : Slices (rb ++ s) (feedAll c rb s).2 (feedAll c rb s).1 ∧ ∀ f ∈ (feedAll c rb s).2, IsFrame f by
    obtain ⟨⟨gaps, last, hlen, hbytes⟩, hframes⟩ := h
    exact ⟨gaps, last, hlen, hbytes, fun f hf =>
      ⟨validateFrame_weaken (hframes f hf), (hframes f hf).isCandidate.1⟩⟩
  cases s with
  | nil => rw [List.append_nil, feedAll]; exact ⟨.refl rb, nofun⟩
  | cons b s => rw [feedAll_cons]; exact ⟨scanAll_slices c _, scanAll_isFrame c _⟩

/-! ### Recovery (41_reassembler.md R154, R160) -/

theorem scanAll_noise_append (c : Bool) {noise : Bytes} (h : ∀ b ∈ noise, b ≠ Config.stx) (rb : Bytes) :
    scanAll c (noise ++ rb) = scanAll c rb := by
  induction noise with
  | nil => rfl
  | cons b noise ih =>
    obtain ⟨hb, htail⟩ := List.forall_mem_cons.1 h
    rw [List.cons_append, scanAll_noise c hb, ih htail]

theorem scanAll_frame (c : Bool) {f : Bytes} (h : IsFrame f) : scanAll c f = ([], [f]) := by
  have hemit := scanAll_emit h.isCandidate (validateFrame_weaken (c := c) h) []
  rwa [List.append_nil, scanAll_of_atWait c atWait_nil] at hemit

/-- Settles O21: noise costs nothing but itself; a failed candidate costs its STX, and the rest of it is noise. -/
theorem noiseAndCorruptionAreRecovered : Obligations.NoiseAndCorruptionAreRecovered := by
  refine ⟨fun c noise f hnoise hf => ?noise, fun c bad f hstx hlen hbad hinner hf => ?corrupted⟩
  case noise =>
    calc feedAll c [] (noise ++ f) = scanAll c (noise ++ f) :=
        feedingIsIndependentOfFragmentation c [] _ atWait_nil
      _ = scanAll c f := scanAll_noise_append c hnoise f
      _ = ([], [f]) := scanAll_frame c hf
  case corrupted =>
    have hcand : IsCandidate bad := ⟨hstx, by rw [needOf_eq, hlen]⟩
    calc feedAll c [] (bad ++ f) = scanAll c (bad ++ f) :=
        feedingIsIndependentOfFragmentation c [] _ atWait_nil
      _ = scanAll c (bad.drop 1 ++ f) := scanAll_fail hcand hbad f
      _ = scanAll c f := scanAll_noise_append c hinner f
      _ = ([], [f]) := scanAll_frame c hf

/-! ### The frame of the operations without a port (41_reassembler.md R150) -/

section

variable {s t : State} {i : Instr} {start finish : State → State}

/-- An operation without a port is accepted, turned away, or makes the step of its phase. -/
theorem pureOp_cases (h : pureOp i start finish s = .next t) :
    t = s.accept i ∨ t = s.rejectBusy ∨ t = { start s with phase := .finish } ∨ t = finish s ∨ t = s := by
  obtain ⟨-, ht⟩ | ⟨-, -, ht⟩ | ⟨-, -, ht⟩ := hostOp_cases h
  · exact .inl ht
  · cases hp : s.phase with rw [hp] at ht
    | start => exact .inr (.inr (.inl ht))
    | finish => exact .inr (.inr (.inr (.inl ht)))
    | idle | send | check | poll | backoff | scan => exact .inr (.inr (.inr (.inr ht)))
  · exact .inr (.inl ht)

/-- What acceptance, rejection, START and FINISH each keep is kept. -/
theorem exec_keeps_of_pureOp {α : Type} (view : State → α) (hexec : exec i = pureOp i start finish)
    (h : exec i s = .next t) (haccept : view (s.accept i) = view s) (hreject : view s.rejectBusy = view s)
    (hstart : view { start s with phase := .finish } = view s) (hfinish : view (finish s) = view s) :
    view t = view s := by
  rw [hexec] at h
  obtain rfl | rfl | rfl | rfl | rfl := pureOp_cases h
  exacts [haccept, hreject, hstart, hfinish, rfl]

/-- The ports, the parameters, and the registers no operation without a port writes. -/
def State.portView (s : State) :=
  (s.env, s.trace, s.modeRaw, s.acc, s.items, s.expected, s.err, s.haveUid, s.deadline, s.lastRx, s.cfg)

theorem exec_isPure_keeps_portView (hi : i.isPure = true) (h : exec i s = .next t) : t.portView = s.portView := by
  cases i with
  | build | validate | lastframe | rbclr | feed | decmode | decnack =>
    exact exec_keeps_of_pureOp State.portView rfl h rfl rfl rfl rfl
  | _ => exact nomatch hi

theorem exec_isPure_keeps_rb (hi : i.isPure = true) (h : exec i s = .next t) (hclr : i ≠ .rbclr)
    (hfeed : ∀ b, i ≠ .feed b) : t.rb = s.rb := by
  cases i with
  | build | validate | lastframe | decmode | decnack =>
    exact exec_keeps_of_pureOp State.rb rfl h rfl rfl rfl rfl
  | rbclr => exact absurd rfl hclr
  | feed b => exact absurd rfl (hfeed b)
  | _ => exact nomatch hi

theorem exec_isPure_keeps_resNack (hi : i.isPure = true) (h : exec i s = .next t) (hnack : ∀ f, i ≠ .decnack f) :
    t.resNack = s.resNack := by
  cases i with
  | build | validate | lastframe | rbclr | feed | decmode =>
    exact exec_keeps_of_pureOp State.resNack rfl h rfl rfl rfl rfl
  | decnack f => exact absurd rfl (hnack f)
  | _ => exact nomatch hi

theorem exec_isPure_keeps_resPretty (hi : i.isPure = true) (h : exec i s = .next t)
    (hmode : ∀ raw, i ≠ .decmode raw) : t.resPretty = s.resPretty := by
  cases i with
  | build | validate | lastframe | rbclr | feed | decnack =>
    exact exec_keeps_of_pureOp State.resPretty rfl h rfl rfl rfl rfl
  | decmode raw => exact absurd rfl (hmode raw)
  | _ => exact nomatch hi

end

/-- Settles O41: START of RBCLR and FEED write RB, FINISH the result registers. -/
theorem portFreeOperationsTouchNoPort : Obligations.PortFreeOperationsTouchNoPort := by
  intro i s t hi h
  have hview := exec_isPure_keeps_portView hi h
  simp only [State.portView, Prod.mk.injEq] at hview
  obtain ⟨henv, htrace, hmodeRaw, hacc, hitems, hexpected, herr, hhaveUid, hdeadline, hlastRx, hcfg⟩ := hview
  exact ⟨henv, htrace, hmodeRaw, hacc, hitems, hexpected, herr, hhaveUid, hdeadline, hlastRx, hcfg,
    exec_isPure_keeps_rb hi h, exec_isPure_keeps_resNack hi h, exec_isPure_keeps_resPretty hi h⟩

end Machine

end Sys2Proof

namespace Sys2Proof

/-! Every step keeps what ACC holds of the run so far (42_transactor.md R184): empty until the request is sent, without a terminal frame while the loop runs, with the terminal frame last after it. -/

/-! ### Sequences of frames -/

theorem nonTerminalSeq_of_eq_nil {b : Bytes} (h : b = []) : NonTerminalSeq b := ⟨[], nofun, h⟩

theorem NonTerminalSeq.append {b f : Bytes} (hb : NonTerminalSeq b) (hf : IsFrame f)
    (ht : Machine.isTerminal f = false) : NonTerminalSeq (b ++ f) := by
  obtain ⟨fs, hfs, rfl⟩ := hb
  refine ⟨fs ++ [f], List.forall_mem_append.2 ⟨hfs, ?_⟩, by simp⟩
  simpa using ⟨hf, ht⟩

theorem NonTerminalSeq.terminate {b f : Bytes} (hb : NonTerminalSeq b) (hf : IsFrame f)
    (ht : Machine.isTerminal f = true) : TerminatedSeq (b ++ f) := ⟨b, f, hb, hf, ht, rfl⟩

namespace Machine

section

variable {s t u : State} {f : Bytes} {rest : List Bytes}

/-! ### Where the invariant of ACC says what -/

/-- The loop runs: PHASE is CHECK, POLL, BACKOFF or SCAN (10_state.md R32). -/
def State.Looping (s : State) : Prop :=
  s.phase = .check ∨ s.phase = .poll ∨ s.phase = .backoff ∨ s.phase = .scan

theorem State.Looping.ne_finish (h : s.Looping) : s.phase ≠ .finish := by
  rcases h with h | h | h | h <;> simp [h]

theorem State.Looping.ne_send (h : s.Looping) : s.phase ≠ .send := by
  rcases h with h | h | h | h <;> simp [h]

theorem continueScan_looping (s : State) : s.continueScan.Looping := by
  rw [State.Looping, continueScan_phase]
  split
  · exact .inl rfl
  · exact .inr (.inr (.inr rfl))

/-- While the loop of an exchange with stop_on_terminal runs, ACC holds no terminal frame. -/
theorem State.AccInv.nonTerminalSeq (h : s.AccInv) (hl : s.Looping) (he : s.exchanging = true)
    (hstop : s.stopsOnTerminal = true) : NonTerminalSeq s.acc := by
  refine h.nonTerminal he hstop ?_
  rcases hl with hp | hp | hp | hp <;> simp [hp]

/-- While no exchange is in progress the invariant asks for nothing but that no end is recorded before FINISH. -/
theorem accInv_of_not_exchanging (he : t.exchanging = false) (hrun : t.phase ≠ .finish → t.cause = none) :
    t.AccInv where
  terminal := by simp [he]
  writeFailed := by simp [he]
  running := hrun
  sending := by simp [he]
  nonTerminal := by simp [he]

theorem exchanging_eq_false_of_collecting (hc : s.collecting = true) : s.exchanging = false := by
  cases ho : s.op with
  | none => simp [State.collecting, ho] at hc
  | some i =>
    rw [exchanging_eq_isExchange ho]
    cases i with
    | inventory => rfl
    | _ => simp [State.collecting, ho] at hc

/-- After a return nothing is in progress, so ACC is meaningless (60_exceptions.md R278). -/
theorem accInv_of_idle (ho : t.op = none) (hcause : t.cause = none) : t.AccInv :=
  accInv_of_not_exchanging (by simp [State.exchanging, ho]) fun _ => hcause

/-- Before the loop the invariant asks for an empty ACC in SEND. -/
theorem accInv_of_before_loop (hp : t.phase = .start ∨ t.phase = .send) (hcause : t.cause = none)
    (hacc : t.phase = .send → t.acc = []) : t.AccInv where
  terminal := by simp [hcause]
  writeFailed := by simp [hcause]
  running := fun _ => hcause
  sending := fun _ => hacc
  nonTerminal := by rcases hp with hp | hp <;> simp [hp]

/-- In the loop the invariant is about the frames in ACC only. -/
theorem accInv_of_looping (hl : t.Looping) (hcause : t.cause = none)
    (hacc : t.exchanging = true → t.stopsOnTerminal = true → NonTerminalSeq t.acc) : t.AccInv where
  terminal := by simp [hcause]
  writeFailed := by simp [hcause]
  running := fun _ => hcause
  sending := fun _ hp => absurd hp hl.ne_send
  nonTerminal := fun he hstop _ => hacc he hstop

/-- At FINISH the invariant is about the end recorded. -/
theorem accInv_of_finish (hp : t.phase = .finish)
    (hterminal : t.exchanging = true → t.cause = some .terminal → TerminatedSeq t.acc)
    (hfailed : t.exchanging = true → t.cause = some .writeFailed → t.acc = [])
    (htimeout : t.exchanging = true → t.stopsOnTerminal = true → t.cause = some .timeout →
      NonTerminalSeq t.acc) : t.AccInv where
  terminal := hterminal
  writeFailed := hfailed
  running := fun h => absurd hp h
  sending := by simp [hp]
  nonTerminal := fun he hstop h => htimeout he hstop (by simpa [hp] using h)

/-- At FINISH without an end, as in an operation without a port, or with the precondition's, the invariant says nothing about ACC. -/
theorem accInv_of_finish_silent (hp : t.phase = .finish)
    (hcause : t.cause = none ∨ t.cause = some .precond) : t.AccInv := by
  rcases hcause with h | h <;> exact accInv_of_finish hp (by simp [h]) (by simp [h]) (by simp [h])

/-- A step from the loop into the loop that leaves ACC as it is. -/
theorem State.AccInv.goOn (h : s.AccInv) (hs : s.Looping) (ht : t.Looping) (hop : t.op = s.op)
    (hcause : t.cause = s.cause) (hacc : t.acc = s.acc) : t.AccInv := by
  have he : t.exchanging = s.exchanging := by simp [State.exchanging, hop]
  have hstop : t.stopsOnTerminal = s.stopsOnTerminal := by simp [State.stopsOnTerminal, hop]
  refine accInv_of_looping ht (hcause.trans (h.running hs.ne_finish)) ?_
  rw [he, hstop, hacc]
  exact h.nonTerminalSeq hs

/-! ### Each step keeps it -/

/-- What INVENTORY does before a check point keeps the operation, and a check point goes on without an end or records one at FINISH. -/
theorem checked_accInv (h : s.AccInv) (hc : s.collecting = true) (hu : Collected s u) (ht : CheckPoint u t) :
    t.AccInv := by
  have hex := exchanging_eq_false_of_collecting hc
  have hexu : u.exchanging = false := by cases hu <;> exact hex
  have hcause : u.cause = none := by
    cases hu with
    | slept hp => exact h.running (by simp [hp])
    | noted hf | counted hf | tagged hf => exact h.running (by simp [hf.phase])
  cases ht with
  | leave => exact accInv_of_not_exchanging hexu fun hp => absurd rfl hp
  | goOn => exact accInv_of_not_exchanging hexu fun _ => hcause

theorem EngineStep.accInv (h : EngineStep s t) (hs : s.Inv) (ha : s.AccInv) : t.AccInv := by
  cases h with
  | stay => exact ha
  | pureStart _ hp | cleared _ hp | fed _ hp =>
    exact accInv_of_finish_silent rfl (.inl (ha.running (by simp [hp])))
  | precond _ hp => exact accInv_of_finish_silent rfl (.inr rfl)
  | exchangeStart _ hp => exact accInv_of_before_loop (.inr rfl) (ha.running (by simp [hp])) fun _ => rfl
  | inventoryStart hc hp =>
    exact accInv_of_not_exchanging (exchanging_eq_false_of_collecting hc) fun _ => ha.running (by simp [hp])
  | accepted hp =>
    exact accInv_of_looping (.inl rfl) (ha.running (by simp [hp])) fun he _ =>
      nonTerminalSeq_of_eq_nil (ha.sending he hp)
  | refused hp => exact accInv_of_finish rfl nofun (fun he _ => ha.sending he hp) nofun
  | late hp =>
    exact accInv_of_finish rfl nofun nofun fun he hstop _ => ha.nonTerminalSeq (.inl hp) he hstop
  | inTime hp => exact ha.goOn (.inl hp) (.inr (.inl rfl)) rfl rfl rfl
  | emptyPoll hp => exact ha.goOn (.inr (.inl hp)) (.inr (.inr (.inl rfl))) rfl rfl rfl
  | byteRead hp => exact ha.goOn (.inr (.inl hp)) (.inr (.inr (.inr rfl))) rfl rfl rfl
  | slept _ hp => exact ha.goOn (.inr (.inr (.inl hp))) (.inl rfl) rfl rfl rfl
  | scanned hp => exact ha.goOn (.inr (.inr (.inr hp))) (.inl rfl) rfl rfl rfl
  | exchangeByte _ hp | inventoryByte _ hp =>
    exact ha.goOn (.inr (.inr (.inr hp))) (continueScan_looping _) rfl rfl rfl
  | dropped hf =>
    exact ha.goOn (.inr (.inr (.inr hf.phase))) (.inr (.inr (.inr hf.phase))) rfl rfl rfl
  | accumulated he hf hgo =>
    have hframe := ((inv_iff.1 hs).1.handles hf).1
    have hl : s.Looping := .inr (.inr (.inr hf.phase))
    refine accInv_of_looping (continueScan_looping _) (ha.running hl.ne_finish) fun _ hstop => ?_
    refine (ha.nonTerminalSeq hl he hstop).append hframe (Bool.eq_false_iff.2 fun hterm => ?_)
    exact nomatch (hgo hterm).symm.trans hstop
  | terminated he hf hterm hstop =>
    have hframe := ((inv_iff.1 hs).1.handles hf).1
    have hl : s.Looping := .inr (.inr (.inr hf.phase))
    exact accInv_of_finish rfl (fun _ _ => (ha.nonTerminalSeq hl he hstop).terminate hframe hterm) nofun nofun
  | nacked hc =>
    exact accInv_of_not_exchanging (exchanging_eq_false_of_collecting hc) fun hp => absurd rfl hp
  | checked hc hu ht => exact checked_accInv ha hc hu ht
  | modeRead | returned => exact accInv_of_idle rfl rfl

theorem PortStep.accInv (h : PortStep s t) (hs : s.Inv) (ha : s.AccInv) : t.AccInv := by
  cases h with
  | nothing => exact ha
  | illegal | turnedAway => exact { ha with }
  | accept => exact accInv_of_before_loop (.inl rfl) rfl nofun
  | engine _ h => exact h.accInv hs ha

end

/-- Settles O46: every engine step keeps the invariant of ACC; a reset and an acceptance record no end. -/
theorem stepKeepsTheAccumulatorInvariant : Obligations.StepKeepsTheAccumulatorInvariant := by
  intro s t hs ha h
  cases hreset : s.resetIn with
  | true =>
    rw [step_reset hreset] at h
    cases h
    exact accInv_of_idle rfl rfl
  | false =>
    obtain ⟨q, p, h⟩ := step_portStep hreset h
    exact h.accInv { hs with } { ha with }

end Machine

end Sys2Proof

namespace Sys2Proof

/-! Transactor (42_transactor.md): what TRANSACT, its composites and INVENTORY do in each phase of 10_state.md R32, one lemma a phase. -/

/-- The trace events of START of an exchange: the start comment of a composite (43_commandset.md R191). -/
def Instr.startComments : Instr → List Machine.Event
  | .transact _ _ _ => []
  | .rdfw _ => [.cmt (.opStart .rdfw)]
  | .rdmode _ => [.cmt (.opStart .rdmode)]
  | .wrmode _ => [.cmt (.opStart .wrmode)]
  | .buzzer _ _ _ => [.cmt (.opStart .buzzer)]
  | _ => []

theorem Instr.usesTransport_of_isExchange {i : Instr} (hi : i.isExchange = true) :
    i.usesTransport = true := by
  cases i with
  | transact | rdfw | rdmode | wrmode | buzzer => rfl
  | _ => exact nomatch hi

namespace Machine

section

variable {s : State} {i : Instr} {f : Bytes} {start finish : State → State}

/-! ### The phases of an operation that uses the transport -/

theorem exchangeOp_check (h : s.At i .check) : exchangeOp i start finish s = .next s.checkDeadline := by
  obtain ⟨hb, ho, hp⟩ := h
  simp [exchangeOp, hostOp_running hb ho, hp]

theorem exchangeOp_poll (h : s.At i .poll) : exchangeOp i start finish s = .next s.pollByte := by
  obtain ⟨hb, ho, hp⟩ := h
  simp [exchangeOp, hostOp_running hb ho, hp]

theorem exchangeOp_backoff (h : s.At i .backoff) : exchangeOp i start finish s = .next s.exchangeBackoff := by
  obtain ⟨hb, ho, hp⟩ := h
  simp [exchangeOp, hostOp_running hb ho, hp]

theorem exchangeOp_finish (h : s.At i .finish) : exchangeOp i start finish s = .next (finish s) := by
  obtain ⟨hb, ho, hp⟩ := h
  simp [exchangeOp, hostOp_running hb ho, hp]

theorem execInventory_check {b : Nat} (h : s.At (.inventory b) .check) :
    execInventory b s = .next s.checkDeadline := by
  obtain ⟨hb, ho, hp⟩ := h
  simp [execInventory, hostOp_running hb ho, hp]

theorem execInventory_poll {b : Nat} (h : s.At (.inventory b) .poll) :
    execInventory b s = .next s.pollByte := by
  obtain ⟨hb, ho, hp⟩ := h
  simp [execInventory, hostOp_running hb ho, hp]

theorem execInventory_backoff {b : Nat} (h : s.At (.inventory b) .backoff) :
    execInventory b s = .next s.inventoryBackoff := by
  obtain ⟨hb, ho, hp⟩ := h
  simp [execInventory, hostOp_running hb ho, hp]

theorem execInventory_finish {b : Nat} (h : s.At (.inventory b) .finish) :
    execInventory b s = .next s.inventoryFinish := by
  obtain ⟨hb, ho, hp⟩ := h
  simp [execInventory, hostOp_running hb ho, hp]

/-- START of an exchange: the start comment, then the one start all five share (43_commandset.md R191, R206). -/
theorem exec_start_exchange (hi : i.isExchange = true) (h : s.At i .start)
    (hmode : (∃ b, i = .wrmode b) → 4 ≤ s.modeRaw.length) :
    exec i s = .next (State.exchangeStart i.budget { s with trace := s.trace ++ i.startComments }) := by
  cases i with
  | transact => exact (exchangeOp_start h).trans (by rw [Instr.startComments, List.append_nil]; rfl)
  | rdfw | rdmode | buzzer => exact exchangeOp_start h
  | wrmode b => exact (exchangeOp_start h).trans (congrArg _ (if_neg (Nat.not_lt.2 (hmode ⟨b, rfl⟩))))
  | _ => exact nomatch hi

/-- CHECK is the same step in all six operations. -/
theorem exec_check (hi : i.usesTransport = true) (h : s.At i .check) : exec i s = .next s.checkDeadline := by
  cases i with
  | inventory => exact execInventory_check h
  | transact | rdfw | rdmode | wrmode | buzzer => exact exchangeOp_check h
  | _ => exact nomatch hi

/-- POLL is the same step in all six operations. -/
theorem exec_poll (hi : i.usesTransport = true) (h : s.At i .poll) : exec i s = .next s.pollByte := by
  cases i with
  | inventory => exact execInventory_poll h
  | transact | rdfw | rdmode | wrmode | buzzer => exact exchangeOp_poll h
  | _ => exact nomatch hi

/-- BACKOFF is the same step in TRANSACT and its four composites. -/
theorem exec_backoff_exchange (hi : i.isExchange = true) (h : s.At i .backoff) :
    exec i s = .next s.exchangeBackoff := by
  cases i with
  | transact | rdfw | rdmode | wrmode | buzzer => exact exchangeOp_backoff h
  | _ => exact nomatch hi

theorem exec_transact_finish {bytes : Bytes} {b : Nat} {stop : Bool}
    (h : s.At (.transact bytes b stop) .finish) : exec (.transact bytes b stop) s = .next s.transactFinish :=
  exchangeOp_finish h

/-! ### The shared steps as state equations -/

/-- SEND: one call of `T.write`, its answer false commented and recorded (42_transactor.md R173, R174). -/
theorem transmit_eq (f : Bytes) (s : State) :
    s.transmit f =
      if s.env.writeAnswer then
        { s with trace := s.trace ++ [.send f], env := s.env.afterWrite f, phase := .check }
      else
        { s with
          trace := s.trace ++ [.send f, .cmt .writeFailed], env := s.env.afterWrite f
          err := if s.collecting then .writeFailed else s.err
          cause := some .writeFailed, phase := .finish } := by
  rcases transmit_cases f s with ⟨hw, e⟩ | ⟨hw, e⟩
  · rw [e, if_pos hw]; rfl
  · rw [e, if_neg (by simp [hw])]
    simp only [State.writeFailure, State.note, State.written, List.append_assoc]
    rfl

theorem pollByte_none (hr : s.env.readAnswer = none) :
    s.pollByte = { s with env := s.env.afterRead s.cfg.pollMs, phase := .backoff } := by
  rw [State.pollByte, hr]; rfl

theorem pollByte_some {b : Byte} (hr : s.env.readAnswer = some b) :
    s.pollByte = { s with env := s.env.afterRead s.cfg.pollMs, rxByte := some b, phase := .scan } := by
  rw [State.pollByte, hr]; rfl

/-- A turn of the frame loop goes on with the frames left, or with CHECK. -/
theorem continueScan_eq (s : State) :
    s.continueScan = { s with phase := if s.out = [] then .check else .scan } := by
  simp only [State.continueScan, List.isEmpty_iff]

theorem exchangeScan_byte {b : Byte} (hx : s.rxByte = some b) :
    s.exchangeScan = (s.feedByte b).continueScan := by
  simp [State.exchangeScan, hx]

theorem exchangeScan_empty (hx : s.rxByte = none) (hout : s.out = []) :
    s.exchangeScan = { s with phase := .check } := by
  simp [State.exchangeScan, hx, hout]

theorem inventoryScan_byte {b : Byte} (hx : s.rxByte = some b) :
    s.inventoryScan =
      (State.feedByte b { s.sampled with lastRx := s.sampled.env.clock }).continueScan := by
  simp [State.inventoryScan, hx]

theorem inventoryScan_empty (hx : s.rxByte = none) (hout : s.out = []) :
    s.inventoryScan = { s with phase := .check } := by
  simp [State.inventoryScan, hx, hout]

/-! ### Frames where they have no effect, and terminal frames -/

theorem emitRequest_elsewhere (h : ¬(s.busy = true ∧ s.phase = .send)) : emitRequest f s = .next s := by
  simp [emitRequest, h]

theorem handleResponse_elsewhere {exchange collect : State → State}
    (h : ¬(s.busy = true ∧ s.phase = .scan ∧ s.rxByte = none ∧ (s.exchanging = true ∨ s.collecting = true))) :
    handleResponse exchange collect s = .next s := by
  unfold handleResponse
  split
  case isTrue hscan =>
    simp only [Bool.and_eq_true, beq_iff_eq, Option.isNone_iff_eq_none] at hscan
    obtain ⟨⟨hb, hp⟩, hx⟩ := hscan
    obtain ⟨he, hc⟩ := not_or.1 fun hop => h ⟨hb, hp, hx, hop⟩
    rw [if_neg he, if_neg hc]
  case isFalse => rfl

/-- A frame after which the loop goes on (42_transactor.md R177). -/
theorem exchangeOther_eq (f : Bytes) (s : State) :
    s.exchangeOther f =
      { s with
        trace := s.trace ++ [.recv f], acc := s.acc ++ f, phase := if s.out = [] then .check else .scan } :=
  continueScan_eq (s.accumulate f)

/-- A terminal frame (42_transactor.md R178, R180). -/
theorem exchangeTerminal_eq (f : Bytes) (s : State) :
    s.exchangeTerminal f =
      if s.stopsOnTerminal then
        { s with
          trace := s.trace ++ [.recv f], acc := s.acc ++ f, out := [], cause := some .terminal
          phase := .finish }
      else
        { s with
          trace := s.trace ++ [.recv f], acc := s.acc ++ f
          phase := if s.out = [] then .check else .scan } := by
  rw [← exchangeOther_eq]
  rfl

/-- A command code decides whether a frame is terminal (42_transactor.md R178). -/
theorem isTerminal_iff : isTerminal f = true ↔ byteAt f 2 = 0x30 ∨ byteAt f 2 = 0x31 := by
  simp [isTerminal, frameCmd]

/-! ### What TRANSACT returns -/

/-- FINISH tells the three ends apart (42_transactor.md R171). -/
theorem transactFinish_cases (s : State) :
    (s.cause = some .writeFailed ∧ s.transactFinish = s.finishWith .failWrite []) ∨
      (s.cause = some .terminal ∧ s.transactFinish = s.finishWith .terminal s.acc) ∨
      (s.cause ≠ some .writeFailed ∧ s.cause ≠ some .terminal ∧
        s.transactFinish = s.finishWith .timeout s.acc) := by
  unfold State.transactFinish
  split <;> simp_all

theorem transactFinish_writeFailed (h : s.cause = some .writeFailed) :
    s.transactFinish = s.finishWith .failWrite [] := by
  simp [State.transactFinish, h]

theorem transactFinish_terminal (h : s.cause = some .terminal) :
    s.transactFinish = s.finishWith .terminal s.acc := by
  simp [State.transactFinish, h]

theorem transactFinish_timeout (h : s.cause = some .timeout) :
    s.transactFinish = s.finishWith .timeout s.acc := by
  simp [State.transactFinish, h]

/-- After frames none of which is terminal the terminal one is the last (42_transactor.md R184). -/
theorem lastFrame_of_nonTerminalSeq {pre : Bytes} (hpre : NonTerminalSeq pre) (hf : IsFrame f) :
    lastFrame (pre ++ f) = some f := by
  obtain ⟨fs, hfs, rfl⟩ := hpre
  have hall : ∀ g ∈ fs ++ [f], validateFrame true g = true :=
    List.forall_mem_append.2 ⟨fun g hg => (hfs g hg).1, List.forall_mem_singleton.2 hf⟩
  simpa using lastFrameOfAFrameSequence true (fs ++ [f]) hall

end

/-! ### The statements -/

/-- Settles O22: the five operations share their start, WRMODE under its precondition. -/
theorem exchangeStartFixesTheDeadline : Obligations.ExchangeStartFixesTheDeadline := by
  intro s b
  refine ⟨fun bytes stop h => ?transact, fun h => ?rdfw, fun h => ?rdmode, fun hmode h => ?wrmode,
    fun rt st h => ?buzzer⟩
  case transact => exact exchangeOp_start h
  case rdfw => exact exec_start_exchange rfl h nofun
  case rdmode => exact exec_start_exchange rfl h nofun
  case wrmode => exact exec_start_exchange rfl h fun _ => hmode
  case buzzer => exact exec_start_exchange rfl h nofun

/-- Settles O24: all of them hand their bytes to the one transmission of SEND. -/
theorem requestsAreTracedAndWritten : Obligations.RequestsAreTracedAndWritten := by
  intro s
  refine ⟨fun i f henc => ⟨fun hb hp => ?frame, fun hs => ?elsewhere⟩, fun f b stop h => ?operand⟩
  case frame => rw [exec_of_encode_tx henc, emitRequest_send hb hp, transmit_eq]
  case elsewhere => rw [exec_of_encode_tx henc, emitRequest_elsewhere hs]
  case operand =>
    have hr : s.requestBytes = some f := by simp [State.requestBytes, h.2.1]
    rw [exec_send rfl h, sendRequest_some hr, transmit_eq]

/-- Settles O25: the six operations share CHECK. -/
theorem deadlineTestEndsTheLoop : Obligations.DeadlineTestEndsTheLoop :=
  fun _ _ hi h => exec_check hi h

/-- Settles O26: the six operations share POLL, the five exchanges BACKOFF. -/
theorem pollsAreFollowedByBackoffOnlyWhenEmpty : Obligations.PollsAreFollowedByBackoffOnlyWhenEmpty := by
  refine ⟨fun i s hi h => ⟨fun hr => ?empty, fun b hr => ?byte⟩, fun i s hi h => exec_backoff_exchange hi h,
    fun b s h => execInventory_backoff h, rfl, rfl⟩
  case empty => rw [exec_poll hi h, pollByte_none hr]
  case byte => rw [exec_poll hi h, pollByte_some hr]

/-- Settles O27: a byte is fed before the loop goes on, by INVENTORY with a sample of the time. -/
theorem everyReceivedByteIsFed : Obligations.EveryReceivedByteIsFed := by
  intro i s h r
  refine ⟨fun b hi hx => ?exchange, fun b budget hi hx => ?inventory, fun hi hx hout => ?empty⟩
  case exchange => rw [exec_scan_exchange hi h, exchangeScan_byte hx, continueScan_eq]; rfl
  case inventory =>
    subst hi
    exact (execInventory_scan h).trans (by rw [inventoryScan_byte hx, continueScan_eq]; rfl)
  case empty =>
    cases he : i.isExchange with
    | true => rw [exec_scan_exchange he h, exchangeScan_empty hx hout]
    | false =>
      obtain ⟨b, rfl⟩ := Instr.eq_inventory_of_not_isExchange hi he
      exact (execInventory_scan h).trans (by rw [inventoryScan_empty hx hout])

/-- Settles O28: the four response frames go through the one frame loop; only ACK and NACK look at stop_on_terminal. -/
theorem exchangeHandlesResponses : Obligations.ExchangeHandlesResponses := by
  intro s addr payload
  refine ⟨?loop, fun i f henc hs => ?elsewhere⟩
  case loop =>
    intro hb hp hx he goOn stop
    refine ⟨?ack, ?nack, ?uid, fun cmd _ => ?other⟩
    case ack => exact (handleResponse_exchanging hb hp hx he).trans (congrArg _ (exchangeTerminal_eq _ s))
    case nack => exact (handleResponse_exchanging hb hp hx he).trans (congrArg _ (exchangeTerminal_eq _ s))
    case uid => exact (handleResponse_exchanging hb hp hx he).trans (congrArg _ (exchangeOther_eq _ s))
    case other => exact (handleResponse_exchanging hb hp hx he).trans (congrArg _ (exchangeOther_eq _ s))
  case elsewhere =>
    cases i with
    | rspAck | rspNack | rspUid | rspOther => exact handleResponse_elsewhere hs
    | _ => exact nomatch henc

/-- Settles O29: FINISH tells the ends apart by the cause recorded. -/
theorem transactReturnsItsOutcome : Obligations.TransactReturnsItsOutcome := by
  intro bytes b stop s h
  refine ⟨fun hcause => ?writeFailed, fun hcause => ?terminal, fun hcause => ?timeout⟩
  case writeFailed => rw [exec_transact_finish h, transactFinish_writeFailed hcause]; rfl
  case terminal => rw [exec_transact_finish h, transactFinish_terminal hcause]; rfl
  case timeout => rw [exec_transact_finish h, transactFinish_timeout hcause]; rfl

/-- Settles O47: RES_BYTES is ACC or empty, and what ACC holds at each end is its invariant's. -/
theorem transactReturnsValidFrames : Obligations.TransactReturnsValidFrames := by
  intro bytes b stop s hs ha h
  have hex : s.exchanging = true := exchanging_eq_isExchange h.2.1
  refine ⟨_, exec_transact_finish h, ?_⟩
  rcases transactFinish_cases s with ⟨-, e⟩ | ⟨hcause, e⟩ | ⟨-, -, e⟩ <;> rw [e]
  · exact ⟨frameSeq_nil, nofun, fun _ => rfl⟩
  · obtain ⟨pre, f, hpre, hf, hterm, hacc⟩ := ha.terminal hex hcause
    have hlast : lastFrame s.acc = some f := hacc ▸ lastFrame_of_nonTerminalSeq hpre hf
    exact ⟨hs.acc, fun _ => ⟨pre, f, hpre, hacc, hf, hlast, isTerminal_iff.1 hterm⟩, nofun⟩
  · exact ⟨hs.acc, nofun, nofun⟩

end Machine

end Sys2Proof

namespace Sys2Proof

/-! Runs of a whole exchange (42_transactor.md R170, R181): with the answer at once, and with a budget of 0. -/

/-- Of a valid frame a proper front part waits for the rest (41_reassembler.md R153). -/
theorem IsFrame.atWait_of_append {got todo : Bytes} (h : IsFrame (got ++ todo)) (htodo : todo ≠ []) :
    AtWait got := by
  obtain ⟨hstx, hneed⟩ := h.isCandidate
  have hshort : got.length < (got ++ todo).length := by
    simpa using List.length_pos_iff.2 htodo
  rcases List.eq_nil_or_concat got with rfl | ⟨front, b, rfl⟩
  · exact .inl rfl
  · refine atWait_iff.2 (.inr ⟨by rwa [byteAt_append_left (by simp)] at hstx, ?_⟩)
    by_cases h4 : (front.concat b).length < 4
    · exact .inl h4
    · rw [needOf_append (by omega)] at hneed
      exact .inr (hneed ▸ hshort)

namespace Machine

section

variable {s t u : State} {i : Instr} {ph : Phase} {b : Byte} {f bytes got todo m : Bytes} {rest : List Bytes}
  {later : List (Option Byte)} {n k : Nat}

/-! ### The environment of a run -/

theorem writeAnswer_of_head? {e : Env} {v : Bool} (h : e.writeQ.head? = some v) : e.writeAnswer = v := by
  simp [Env.writeAnswer, List.headD_eq_head?_getD, h]

theorem readAnswer_of_readQ {e : Env} {a : Option Byte} {q : List (Option Byte)} (h : e.readQ = a :: q) :
    e.readAnswer = a := by
  simp [Env.readAnswer, h]

/-- The next `n` answers of `Now()` are scripted, and no time passes before them. -/
def Env.Still (n : Nat) (e : Env) : Prop := ∃ k, n ≤ k ∧ e.nowQ = List.replicate k 0

theorem Env.Still.afterNow {e : Env} (h : e.Still (n + 1)) :
    e.afterNow.clock = e.clock ∧ e.afterNow.Still n := by
  obtain ⟨_ | k, hk, hq⟩ := h
  · omega
  · exact ⟨by simp [Env.advance, hq, List.replicate_succ], k, by omega, by simp [hq]⟩

/-! ### Steps of a quiet port -/

/-- No reset, no request at the port. -/
def State.Quiet (s : State) : Prop := s.resetIn = false ∧ s.request = none

/-- Outside SEND and SCAN the step is the operation's own. -/
theorem step_plain (hq : s.Quiet) (h : s.At i ph) (hsend : ph ≠ .send) (hscan : ph ≠ .scan) :
    step s = exec i s.tick := by
  obtain ⟨hb, ho, rfl⟩ := h
  exact step_of_fetchBusy hq.1 hq.2 hb
    ((fetchBusy_plain (s := s.tick) hsend hscan).trans (fetchOperation_some ho))

/-- SEND of a request the transport takes (42_transactor.md R173). -/
theorem step_send_accepted (hq : s.Quiet) (h : s.At i .send) (hr : s.requestBytes = some bytes)
    (hw : s.env.writeAnswer = true) :
    step s = .next
      { s.tick with trace := s.trace ++ [.send bytes], env := s.env.afterWrite bytes, phase := .check } :=
  (step_send_transmits hq.1 hq.2 h.1 h.2.2 hr).trans
    (congrArg _ ((transmit_eq bytes s.tick).trans (if_pos hw)))

/-- SEND of a request the transport refuses (42_transactor.md R174). -/
theorem step_send_refused (hq : s.Quiet) (h : s.At i .send) (hr : s.requestBytes = some bytes)
    (hw : s.env.writeAnswer = false) :
    step s = .next
      { s.tick with
        trace := s.trace ++ [.send bytes, .cmt .writeFailed], env := s.env.afterWrite bytes
        err := if s.collecting then .writeFailed else s.err
        cause := some .writeFailed, phase := .finish } :=
  (step_send_transmits hq.1 hq.2 h.1 h.2.2 hr).trans
    (congrArg _ ((transmit_eq bytes s.tick).trans (if_neg (Bool.eq_false_iff.1 hw))))

/-- CHECK before the deadline (42_transactor.md R176). -/
theorem step_check_early (hi : i.usesTransport = true) (hq : s.Quiet) (h : s.At i .check)
    (hearly : s.env.afterNow.clock < s.deadline) :
    step s = .next { s.tick with env := s.env.afterNow, phase := .poll } :=
  (step_plain hq h nofun nofun).trans
    ((exec_check (s := s.tick) hi h).trans (congrArg _ (if_neg (Nat.not_le.2 hearly))))

/-- CHECK at or after the deadline (42_transactor.md R176). -/
theorem step_check_late (hi : i.usesTransport = true) (hq : s.Quiet) (h : s.At i .check)
    (hlate : s.deadline ≤ s.env.afterNow.clock) :
    step s = .next
      { s.tick with
        env := s.env.afterNow, trace := s.trace ++ [.cmt .timeout], cause := some .timeout, phase := .finish } :=
  (step_plain hq h nofun nofun).trans
    ((exec_check (s := s.tick) hi h).trans (congrArg _ (if_pos hlate)))

/-- POLL with a byte (42_transactor.md R175). -/
theorem step_poll_byte {q : List (Option Byte)} (hi : i.usesTransport = true) (hq : s.Quiet) (h : s.At i .poll)
    (hr : s.env.readQ = some b :: q) :
    step s = .next
      { s.tick with env := s.env.afterRead s.cfg.pollMs, rxByte := some b, phase := .scan } :=
  (step_plain hq h nofun nofun).trans
    ((exec_poll (s := s.tick) hi h).trans (congrArg _ (pollByte_some (s := s.tick) (readAnswer_of_readQ hr))))

theorem step_scan_byte (hi : i.isExchange = true) (hq : s.Quiet) (h : s.At i .scan) (hx : s.rxByte = some b) :
    step s = .next (s.tick.feedByte b).continueScan := by
  have hfetch : fetchBusy s.tick = .run i s.tick :=
    (fetchBusy_byte (s := s.tick) h.2.2 (.inl (by simp [hx]))).trans (fetchOperation_some h.2.1)
  rw [step_of_fetchBusy hq.1 hq.2 h.1 hfetch, ← exchangeScan_byte (s := s.tick) hx]
  exact exec_scan_exchange hi h

/-- In the frame loop the step handles the next frame. -/
theorem step_scan_frame (hq : s.Quiet) (hb : s.busy = true) (he : s.exchanging = true)
    (hf : s.Handles f rest) (hframe : IsFrame f) :
    step s = .next (State.exchangeFrame f { s.tick with out := rest }) := by
  obtain ⟨hp, hx, hout⟩ := hf
  have hd : decode (.rx f) = .ok (responseOfFields (frameAddr f) (frameCmd f) (framePayload f)) := if_pos hframe
  obtain ⟨henc, hwf⟩ := encode_of_decodeRx hd
  rw [step_of_fetchBusy hq.1 hq.2 hb ((fetchBusy_frame (s := s.tick) hp hx hout).trans (fetchFrame_ok hd)),
    exec_of_encode_rx henc hwf]
  exact handleResponse_exchanging (s := { s.tick with out := rest }) hb hp hx he

/-- A terminal frame ends the loop of an exchange with stop_on_terminal (42_transactor.md R178). -/
theorem step_scan_terminal (hq : s.Quiet) (hb : s.busy = true) (he : s.exchanging = true)
    (hstop : s.stopsOnTerminal = true) (hf : s.Handles f rest) (hframe : IsFrame f)
    (hterm : isTerminal f = true) :
    step s = .next ((State.accumulate f { s.tick with out := rest }).leaveLoop .terminal) := by
  rw [step_scan_frame hq hb he hf hframe, State.exchangeFrame, if_pos hterm, State.exchangeTerminal]
  exact congrArg _ (if_pos hstop)

theorem run_one (h : step s = .next t) : Host.Core.run Sys2Proof.core 1 s = .next t := run_succ h

theorem run_trans (h : Host.Core.run Sys2Proof.core n s = .next u)
    (hu : Host.Core.run Sys2Proof.core k u = .next t) : Host.Core.run Sys2Proof.core (n + k) s = .next t :=
  (run_add h).trans hu

/-! ### An answer without delay (42_transactor.md R170) -/

/-- At CHECK of the exchange `i` with stop_on_terminal: `got` of the answer is in RB, `todo` comes at once, then `later`. -/
structure State.Receives (i : Instr) (later : List (Option Byte)) (m got todo : Bytes) (s : State) : Prop where
  stands : s.At i .check
  quiet : s.Quiet
  stops : s.stopsOnTerminal = true
  rb : s.rb = got
  acc : s.acc = []
  modeRaw : s.modeRaw = m
  readQ : s.env.readQ = todo.map some ++ later
  still : s.env.Still todo.length
  early : s.env.clock < s.deadline

/-- A run from `s` ends at FINISH of `i` with the answer `f` alone in ACC, the rest of the stream unread. -/
def State.EndsOn (i : Instr) (later : List (Option Byte)) (m f : Bytes) (s : State) : Prop :=
  ∃ n t, Host.Core.run Sys2Proof.core n s = .next t ∧ t.At i .finish ∧ t.acc = f ∧ t.rb = [] ∧
    t.cause = some .terminal ∧ t.env.readQ = later ∧ t.modeRaw = m

theorem endsOn_of_run (h : Host.Core.run Sys2Proof.core n s = .next u) (hu : u.EndsOn i later m f) :
    s.EndsOn i later m f := by
  obtain ⟨k, t, hrun, hend⟩ := hu
  exact ⟨n + k, t, run_trans h hrun, hend⟩

/-- CHECK before the deadline, POLL with a byte, SCAN of this byte. -/
theorem run_byteTurn {q : List (Option Byte)} (hi : i.isExchange = true) (hq : s.Quiet) (h : s.At i .check)
    (hearly : s.env.afterNow.clock < s.deadline) (hr : s.env.readQ = some b :: q) :
    Host.Core.run Sys2Proof.core 3 s =
      .next (State.feedByte b { s.tick with env := s.env.afterNow.afterRead s.cfg.pollMs }).continueScan := by
  have hi' := Instr.usesTransport_of_isExchange hi
  obtain ⟨hb, ho, -⟩ := id h
  have hpoll := step_poll_byte (s := { s.tick with env := s.env.afterNow, phase := .poll }) hi' hq
    ⟨hb, ho, rfl⟩ hr
  exact (run_succ (step_check_early hi' hq h hearly)).trans
    ((run_succ hpoll).trans (run_one (step_scan_byte hi hq ⟨hb, ho, rfl⟩ rfl)))

/-- A byte that completes no frame is buffered. -/
theorem State.Receives.buffers (h : s.Receives i later m got (b :: todo)) (hi : i.isExchange = true)
    (hwait : AtWait (got ++ [b])) :
    ∃ t, Host.Core.run Sys2Proof.core 3 s = .next t ∧ t.Receives i later m (got ++ [b]) todo := by
  obtain ⟨hb, ho, -⟩ := h.stands
  obtain ⟨hclock, hstill⟩ := h.still.afterNow
  have hscan : scanAll s.cfg.checksStx (s.rb ++ [b]) = (got ++ [b], []) := by
    rw [h.rb, scanAll_of_atWait _ hwait]
  exact ⟨_, run_byteTurn hi h.quiet h.stands (hclock ▸ h.early) h.readQ, {
    stands := ⟨hb, ho, by simp [hscan]⟩
    quiet := h.quiet
    stops := h.stops
    rb := congrArg Prod.fst hscan
    acc := h.acc
    modeRaw := h.modeRaw
    readQ := congrArg List.tail h.readQ
    still := hstill
    early := hclock ▸ h.early }⟩

/-- The last byte of a terminal frame ends the exchange. -/
theorem State.Receives.completes (h : s.Receives i later m got [b]) (hi : i.isExchange = true)
    (hf : IsFrame (got ++ [b])) (hterm : isTerminal (got ++ [b]) = true) : s.EndsOn i later m (got ++ [b]) := by
  obtain ⟨hb, ho, -⟩ := h.stands
  obtain ⟨hclock, -⟩ := h.still.afterNow
  have hscan : scanAll s.cfg.checksStx (s.rb ++ [b]) = ([], [got ++ [b]]) := by
    rw [h.rb, scanAll_frame _ hf]
  have hex : s.exchanging = true := (exchanging_eq_isExchange ho).trans hi
  refine endsOn_of_run (run_byteTurn hi h.quiet h.stands (hclock ▸ h.early) h.readQ) ⟨1, _,
    run_one (step_scan_terminal h.quiet hb hex h.stops
      ⟨by simp [hscan], rfl, congrArg Prod.snd hscan⟩ hf hterm), ?_⟩
  exact ⟨⟨hb, ho, rfl⟩, by simp [h.acc], congrArg Prod.fst hscan, rfl, congrArg List.tail h.readQ, h.modeRaw⟩

/-- Byte by byte to the end of the frame. -/
theorem State.Receives.endsOn (h : s.Receives i later m got todo) (hi : i.isExchange = true)
    (htodo : todo ≠ []) (hf : IsFrame (got ++ todo)) (hterm : isTerminal (got ++ todo) = true) :
    s.EndsOn i later m (got ++ todo) := by
  induction todo generalizing s got with
  | nil => exact absurd rfl htodo
  | cons b todo ih =>
    cases todo with
    | nil => exact h.completes hi hf hterm
    | cons b' todo =>
      rw [List.append_cons] at hf hterm ⊢
      obtain ⟨t, hrun, ht⟩ := h.buffers hi (hf.atWait_of_append nofun)
      exact endsOn_of_run hrun (ih ht nofun hf hterm)

/-- START and SEND of an exchange whose request is accepted lead to CHECK with nothing read. -/
theorem run_start_send (hi : i.isExchange = true) (hq : s.Quiet) (h : s.At i .start)
    (hmode : (∃ b, i = .wrmode b) → 4 ≤ s.modeRaw.length) (hw : s.env.writeQ.head? = some true) :
    ∃ t bytes, Host.Core.run Sys2Proof.core 2 s = .next t ∧ t.At i .check ∧ t.Quiet ∧
      t.stopsOnTerminal = s.stopsOnTerminal ∧ t.rb = [] ∧ t.acc = [] ∧ t.modeRaw = s.modeRaw ∧
      t.env = s.env.afterNow.afterWrite bytes ∧ t.deadline = s.env.afterNow.clock + i.budget := by
  have hstart := (step_plain hq h nofun nofun).trans (exec_start_exchange (s := s.tick) hi h hmode)
  obtain ⟨bytes, hr⟩ := requestBytes_of_usesTransport (s := s) (Instr.usesTransport_of_isExchange hi) h.2.1
  have hsend := step_send_accepted
    (s := State.exchangeStart i.budget { s.tick with trace := s.trace ++ i.startComments })
    hq ⟨h.1, h.2.1, rfl⟩ hr (writeAnswer_of_head? hw)
  exact ⟨_, bytes, (run_succ hstart).trans (run_one hsend), ⟨h.1, h.2.1, rfl⟩, hq, rfl, rfl, rfl, rfl, rfl, rfl⟩

/-! ### A budget of 0 (42_transactor.md R181, 44_inventory.md R236) -/

/-- At FINISH of `i` in `t`, begun at SEND in `s`: `bytes` were written once, the deadline was tested only if the transport took them, nothing was read. -/
structure State.Unpolled (i : Instr) (bytes : Bytes) (s t : State) : Prop where
  stands : t.At i .finish
  quiet : t.Quiet
  deadline : t.deadline = s.deadline
  acc : t.acc = s.acc
  items : t.items = s.items
  cause : t.cause = some (if s.env.writeAnswer then .timeout else .writeFailed)
  err : t.err = if s.env.writeAnswer then s.err else if s.collecting then .writeFailed else s.err
  calls : t.env.calls = s.env.calls ++ [.write bytes s.env.writeAnswer] ++
    if s.env.writeAnswer then [.now] else []
  readQ : t.env.readQ = s.env.readQ

/-- Time never decreases, so a deadline reached at SEND is reached at the first CHECK (10_state.md R36). -/
theorem run_send_late (hi : i.usesTransport = true) (hq : s.Quiet) (h : s.At i .send)
    (hr : s.requestBytes = some bytes) (hlate : s.deadline ≤ s.env.clock) :
    ∃ n t, Host.Core.run Sys2Proof.core n s = .next t ∧ State.Unpolled i bytes s t := by
  cases hw : s.env.writeAnswer with
  | false =>
    exact ⟨1, _, run_one (step_send_refused hq h hr hw), {
      stands := ⟨h.1, h.2.1, rfl⟩
      quiet := hq
      deadline := rfl
      acc := rfl
      items := rfl
      cause := by simp [hw]
      err := by simp [hw]
      calls := by simp [hw]
      readQ := rfl }⟩
  | true =>
    have hreached : s.deadline ≤ (s.env.afterWrite bytes).afterNow.clock :=
      hlate.trans (clock_le_afterNow (s.env.afterWrite bytes))
    exact ⟨2, _, (run_succ (step_send_accepted hq h hr hw)).trans
      (run_one (step_check_late hi hq ⟨h.1, h.2.1, rfl⟩ hreached)), {
      stands := ⟨h.1, h.2.1, rfl⟩
      quiet := hq
      deadline := rfl
      acc := rfl
      items := rfl
      cause := by simp [hw]
      err := by simp [hw]
      calls := by simp [hw]
      readQ := rfl }⟩

/-- The whole run: START, at whose sample the deadline lies, SEND, maybe CHECK, FINISH. -/
theorem run_unpolled {finish : State → State} (hi : i.usesTransport = true) (hstart : step s = .next u)
    (hq : u.Quiet) (h : u.At i .send) (hr : u.requestBytes = some bytes) (hlate : u.deadline ≤ u.env.clock)
    (hfinish : ∀ {t}, t.At i .finish → exec i t = .next (finish t)) :
    ∃ n t, Host.Core.run Sys2Proof.core n s = .next (finish t) ∧ State.Unpolled i bytes u t := by
  obtain ⟨n, t, hrun, ht⟩ := run_send_late hi hq h hr hlate
  have hreturn : step t = .next (finish t.tick) :=
    (step_plain ht.quiet ht.stands nofun nofun).trans (hfinish (t := t.tick) ht.stands)
  exact ⟨_, t.tick, run_trans (run_one hstart) (run_trans hrun (run_one hreturn)), { ht with }⟩

/-- The port calls from START on, where the sample that fixed the deadline was taken. -/
theorem State.Unpolled.calls_from_start {e : Env} (h : State.Unpolled i bytes s t) (hs : s.env = e.afterNow) :
    t.env.calls = e.calls ++ [.now, .write bytes e.afterNow.writeAnswer] ++
      if e.afterNow.writeAnswer then [.now] else [] := by
  rw [h.calls, hs]
  simp

/-- The result of TRANSACT at an end without a poll. -/
theorem State.Unpolled.transactFinish (h : State.Unpolled i bytes s t) (hacc : s.acc = []) :
    t.transactFinish.deadline = s.deadline ∧ t.transactFinish.resBytes = [] ∧
      t.transactFinish.resStatus = (if s.env.writeAnswer then .timeout else .failWrite) ∧
      t.transactFinish.env = t.env := by
  cases hw : s.env.writeAnswer with
  | false =>
    rw [transactFinish_writeFailed (h.cause.trans (by simp [hw]))]
    exact ⟨h.deadline, rfl, rfl, rfl⟩
  | true =>
    rw [transactFinish_timeout (h.cause.trans (by simp [hw]))]
    exact ⟨h.deadline, h.acc.trans hacc, rfl, rfl⟩

/-- The result of INVENTORY at an end without a poll. -/
theorem State.Unpolled.inventoryFinish (h : State.Unpolled i bytes s t) (hc : s.collecting = true)
    (hitems : s.items = []) (herr : s.err = .clear) :
    t.inventoryFinish.deadline = s.deadline ∧ t.inventoryFinish.items = [] ∧
      t.inventoryFinish.err = (if s.env.writeAnswer then .noTags else .writeFailed) ∧
      t.inventoryFinish.env = t.env := by
  have hitems' : t.items = [] := h.items.trans hitems
  unfold State.inventoryFinish
  cases hw : s.env.writeAnswer with
  | false =>
    have herr' : t.err = .writeFailed := h.err.trans (by simp [hw, hc])
    rw [if_neg (by simp [herr'])]
    exact ⟨h.deadline, hitems', herr', rfl⟩
  | true =>
    have herr' : t.err = .clear := h.err.trans (by simp [hw, herr])
    rw [if_pos ⟨hitems', herr'⟩]
    exact ⟨h.deadline, hitems', rfl, rfl⟩

end

/-! ### The statements -/

/-- Settles O56: every front part of the answer waits for the rest, its last byte emits it, and it ends the loop. -/
theorem exchangeRunsToItsAnswer : Obligations.ExchangeRunsToItsAnswer := by
  intro s i f later k hi hstop h hmode hbudget _ _ _ hreset hreq hf hterm hw hread hnow hk
  obtain ⟨u, bytes, hrun, hat, hquiet, hstops, hrb, hacc, hraw, henv, hdeadline⟩ :=
    run_start_send hi ⟨hreset, hreq⟩ h hmode hw
  have hstill : s.env.Still (f.length + 1) := ⟨k, hk, hnow⟩
  have hreceives : u.Receives i later s.modeRaw [] f := {
    stands := hat
    quiet := hquiet
    stops := hstops.trans hstop
    rb := hrb
    acc := hacc
    modeRaw := hraw
    readQ := henv ▸ hread
    still := henv ▸ hstill.afterNow.2
    early := by rw [henv, hdeadline, afterWrite_clock]; omega }
  exact endsOn_of_run hrun (hreceives.endsOn hi (List.ne_nil_of_length_pos hf.isCandidate.length_pos) hf hterm)

/-- Settles O58: START makes the first sample the deadline, so the first test of it succeeds. -/
theorem zeroBudgetPollsNothing : Obligations.ZeroBudgetPollsNothing := by
  refine ⟨fun s bytes stop h _ hreset hreq => ?transact, fun s h _ hreset hreq => ?inventory⟩
  case transact =>
    have hstart : step s = .next (s.tick.exchangeStart 0) :=
      (step_plain ⟨hreset, hreq⟩ h nofun nofun).trans (exchangeOp_start h)
    have hr : s.requestBytes = some bytes := by rw [State.requestBytes, h.2.1]
    obtain ⟨n, t, hrun, ht⟩ := run_unpolled (i := .transact bytes 0 stop) rfl hstart ⟨hreset, hreq⟩
      ⟨h.1, h.2.1, rfl⟩ hr le_rfl exec_transact_finish
    obtain ⟨hdone, hbusy, -⟩ := transactFinish_returned t
    obtain ⟨hdeadline, hbytes, hstatus, henv⟩ := ht.transactFinish rfl
    exact ⟨n, _, hrun, hbusy, hdone, hdeadline, hbytes, hstatus,
      (congrArg Env.calls henv).trans (ht.calls_from_start rfl), (congrArg Env.readQ henv).trans ht.readQ⟩
  case inventory =>
    have hstart : step s = .next (s.tick.inventoryStart 0) :=
      (step_plain ⟨hreset, hreq⟩ h nofun nofun).trans (execInventory_start h)
    have hr : s.requestBytes = some (buildFrame s.cfg.addr 0x78 (0xF0 :: s.cfg.invReqExtra)) := by
      rw [State.requestBytes, h.2.1]; rfl
    obtain ⟨n, t, hrun, ht⟩ := run_unpolled (i := .inventory 0) rfl hstart ⟨hreset, hreq⟩
      ⟨h.1, h.2.1, rfl⟩ hr le_rfl execInventory_finish
    obtain ⟨hdone, hbusy, -⟩ := inventoryFinish_returned t
    obtain ⟨hdeadline, hitems, herr, henv⟩ := ht.inventoryFinish (collecting_of_op h.2.1) rfl rfl
    exact ⟨n, _, hrun, hbusy, hdone, hdeadline, hitems, herr,
      (congrArg Env.calls henv).trans (ht.calls_from_start rfl), (congrArg Env.readQ henv).trans ht.readQ⟩

end Machine

end Sys2Proof

namespace Sys2Proof

/-! CommandSet (43_commandset.md): FINISH of the four composites is one conclusion of the exchange with a classification of the last frame each; WRMODE without its precondition; the request each operation sends. -/

namespace Machine

section

variable {s : State} {i : Instr} {f : Bytes} {onFrame : Bytes → State → State}

/-! ### FINISH of the composites (43_commandset.md R191) -/

theorem exec_rdfw_finish {b : Nat} (h : s.At (.rdfw b) .finish) :
    exec (.rdfw b) s = .next (s.concludeExchange State.rdfwFrame) :=
  exchangeOp_finish h

theorem exec_rdmode_finish {b : Nat} (h : s.At (.rdmode b) .finish) :
    exec (.rdmode b) s = .next (s.concludeExchange State.rdmodeFrame) :=
  exchangeOp_finish h

theorem exec_buzzer_finish {rt st : Byte} {b : Nat} (h : s.At (.buzzer rt st b) .finish) :
    exec (.buzzer rt st b) s = .next (s.concludeExchange State.ackFrame) :=
  exchangeOp_finish h

/-- WRMODE after its precondition concludes as BUZZER does (43_commandset.md R204, R210). -/
theorem exec_wrmode_finish {b : Nat} (hcause : s.cause ≠ some .precond) (h : s.At (.wrmode b) .finish) :
    exec (.wrmode b) s = .next (s.concludeExchange State.ackFrame) :=
  (exchangeOp_finish h).trans (congrArg _ (if_neg hcause))

/-! ### The branches of the conclusion (43_commandset.md R191, R192) -/

theorem concludeExchange_writeFailed (hlast : lastFrame s.acc = none) (hcause : s.cause = some .writeFailed) :
    s.concludeExchange onFrame = s.finishWith .failWrite [] := by
  simp [State.concludeExchange, hlast, hcause]

theorem concludeExchange_noFrame (hlast : lastFrame s.acc = none) (hcause : s.cause ≠ some .writeFailed) :
    s.concludeExchange onFrame = (s.note (.cmt .noFrame)).finishWith .failNoframe [] := by
  simp [State.concludeExchange, hlast, hcause]

/-- A valid last frame is a NACK or goes to the operation's own classification. -/
theorem concludeExchange_isFrame (hlast : lastFrame s.acc = some f) (hf : IsFrame f) :
    s.concludeExchange onFrame = if byteAt f 2 = 0x31 then s.nackReturn f else onFrame f s := by
  rw [State.concludeExchange, hlast]
  exact if_pos (validateFrame_weaken hf)

theorem concludeExchange_nack (hlast : lastFrame s.acc = some f) (hf : IsFrame f) (hcmd : byteAt f 2 = 0x31) :
    s.concludeExchange onFrame = s.nackReturn f :=
  (concludeExchange_isFrame hlast hf).trans (if_pos hcmd)

theorem concludeExchange_frame (hlast : lastFrame s.acc = some f) (hf : IsFrame f) (hcmd : byteAt f 2 ≠ 0x31) :
    s.concludeExchange onFrame = onFrame f s :=
  (concludeExchange_isFrame hlast hf).trans (if_neg hcmd)

/-! ### What DECNACK reads from a NACK (45_translators.md R261) -/

theorem nackCodeOf_payload (hlen : 1 ≤ frameLen f) : nackCodeOf f = some (byteAt f 4) := if_pos hlen

theorem nackCodeOf_bare (hlen : frameLen f = 0) : nackCodeOf f = none := if_neg (by omega)

/-- On a valid NACK the code alone decides the kind. -/
theorem decodeNack_of_isFrame (c : Bool) (hf : IsFrame f) (hcmd : byteAt f 2 = 0x31) :
    decodeNack c f =
      if nackCodeOf f = some 0x42 then ⟨.sum, nackCodeOf f⟩
      else if nackCodeOf f = some 0x44 then ⟨.fmt, nackCodeOf f⟩
      else ⟨.unknown, nackCodeOf f⟩ := by
  simp [decodeNack, validateFrame_weaken hf, frameCmd, hcmd]

theorem decodeNack_sum (c : Bool) (hf : IsFrame f) (hcmd : byteAt f 2 = 0x31) (hlen : 1 ≤ frameLen f)
    (hcode : byteAt f 4 = 0x42) : decodeNack c f = ⟨.sum, some 0x42⟩ := by
  simp [decodeNack_of_isFrame c hf hcmd, nackCodeOf_payload hlen, hcode]

theorem decodeNack_fmt (c : Bool) (hf : IsFrame f) (hcmd : byteAt f 2 = 0x31) (hlen : 1 ≤ frameLen f)
    (hcode : byteAt f 4 = 0x44) : decodeNack c f = ⟨.fmt, some 0x44⟩ := by
  simp [decodeNack_of_isFrame c hf hcmd, nackCodeOf_payload hlen, hcode]

theorem decodeNack_unknown (c : Bool) (hf : IsFrame f) (hcmd : byteAt f 2 = 0x31) (hlen : 1 ≤ frameLen f)
    (hsum : byteAt f 4 ≠ 0x42) (hfmt : byteAt f 4 ≠ 0x44) :
    decodeNack c f = ⟨.unknown, some (byteAt f 4)⟩ := by
  rw [decodeNack_of_isFrame c hf hcmd, nackCodeOf_payload hlen, if_neg (mt Option.some.inj hsum),
    if_neg (mt Option.some.inj hfmt)]

theorem decodeNack_bare (c : Bool) (hf : IsFrame f) (hcmd : byteAt f 2 = 0x31) (hlen : frameLen f = 0) :
    decodeNack c f = ⟨.unknown, none⟩ := by
  simp [decodeNack_of_isFrame c hf hcmd, nackCodeOf_bare hlen]

/-- The return on a NACK, given its decoding (43_commandset.md R192). -/
theorem nackReturn_of_decodeNack {n : Nack} (hn : decodeNack s.cfg.checksStx f = n) :
    s.nackReturn f =
      State.finishWith n.kind.status [] { s with resNack := n, trace := s.trace ++ [.cmt (.nack n.kind)] } := by
  subst hn; rfl

/-! ### Each operation on a last frame that is no NACK -/

theorem rdfwFrame_version (h : byteAt f 2 = 0x30 ∧ 1 ≤ frameLen f ∧ byteAt f 4 = 0x90) :
    s.rdfwFrame f = (s.note (.cmt (.value .rdfw))).finishWith .ok (versionText (dataOf f)) :=
  if_pos (isAckWithDetail_iff.2 h)

theorem rdfwFrame_bad (h : ¬(byteAt f 2 = 0x30 ∧ 1 ≤ frameLen f ∧ byteAt f 4 = 0x90)) :
    s.rdfwFrame f = s.badResponse :=
  if_neg (mt isAckWithDetail_iff.1 h)

theorem rdmodeFrame_mode (h : byteAt f 2 = 0x30 ∧ 1 ≤ frameLen f ∧ byteAt f 4 = 0x00) :
    s.rdmodeFrame f =
      State.finishWith .ok [] ({ s with modeRaw := dataOf f }.note (.cmt (.value .rdmode))) :=
  if_pos (isAckWithDetail_iff.2 h)

theorem rdmodeFrame_bad (h : ¬(byteAt f 2 = 0x30 ∧ 1 ≤ frameLen f ∧ byteAt f 4 = 0x00)) :
    s.rdmodeFrame f = s.badResponse :=
  if_neg (mt isAckWithDetail_iff.1 h)

theorem ackFrame_ack (h : byteAt f 2 = 0x30) : s.ackFrame f = s.finishWith .ok [] := if_pos h

theorem ackFrame_bad (h : byteAt f 2 ≠ 0x30) : s.ackFrame f = s.badResponse := if_neg h

/-! ### VERSION_TEXT (43_commandset.md R195) -/

/-- Four printable characters or more are set apart by a dot and a space. -/
theorem versionText_of_four_le {d t : Bytes} (ht : d.filter isPrintable = t) (hlen : 4 ≤ t.length) :
    versionText d = [byteAt t 0, 0x2E, byteAt t 1, byteAt t 2, 0x20] ++ t.drop 3 := by
  match t, hlen with
  | c0 :: c1 :: c2 :: c3 :: rest, _ => simp [versionText, ht]

/-- Fewer stay as they are. -/
theorem versionText_of_lt_four {d t : Bytes} (ht : d.filter isPrintable = t) (hlen : t.length < 4) :
    versionText d = t := by
  match t, hlen with
  | [], _ | [_], _ | [_, _], _ | [_, _, _], _ => simp [versionText, ht]

theorem isPrintable_eq_decide : isPrintable = fun c : Byte => decide (0x20 ≤ c.toNat ∧ c.toNat ≤ 0x7E) :=
  funext fun _ => (Bool.decide_and _ _).symm

/-! ### WRMODE without its precondition (43_commandset.md R206) -/

theorem exec_wrmode_start_precond {b : Nat} (h : s.At (.wrmode b) .start) (hmode : s.modeRaw.length < 4) :
    exec (.wrmode b) s = .next ((s.note (.cmt .precond)).leaveLoop .precond) :=
  (exchangeOp_start h).trans (congrArg _ (if_pos hmode))

theorem exec_wrmode_finish_precond {b : Nat} (h : s.At (.wrmode b) .finish) (hcause : s.cause = some .precond) :
    exec (.wrmode b) s = .next (s.finishWith .failPrecond []) :=
  (exchangeOp_finish h).trans (congrArg _ (if_pos hcause))

/-! ### The request of the operation in progress -/

/-- What an operation hands to `T.write` in SEND, and whether it collects, is read from its operands and the registers. -/
theorem exec_send_request {ins : Bool} (hi : i.usesTransport = true) (h : s.At i .send)
    (hr : State.requestBytes { s with op := some i } = some f)
    (hc : State.collecting { s with op := some i } = ins) :
    exec i s = .next
      (if s.env.writeAnswer then
        { s with trace := s.trace ++ [.send f], env := s.env.afterWrite f, phase := .check }
      else
        { s with
          trace := s.trace ++ [.send f, .cmt .writeFailed], env := s.env.afterWrite f
          err := if ins then .writeFailed else s.err
          cause := some .writeFailed, phase := .finish }) := by
  have hop : { s with op := some i } = s := by rw [← h.2.1]
  rw [hop] at hr hc
  rw [exec_send hi h, sendRequest_some hr, transmit_eq, hc]

end

/-! ### The statements -/

/-- Settles O30: FINISH of each composite concludes the exchange alike up to its own classification, which none of these failures reaches. -/
theorem compositesShareTheirFailures : Obligations.CompositesShareTheirFailures := by
  intro i s hi h
  obtain ⟨onFrame, hexec⟩ : ∃ onFrame, exec i s = .next (s.concludeExchange onFrame) := by
    rcases hi with ⟨b, rfl⟩ | ⟨b, rfl⟩ | ⟨b, rfl, hcause⟩ | ⟨rt, st, b, rfl⟩
    · exact ⟨_, exec_rdfw_finish h⟩
    · exact ⟨_, exec_rdmode_finish h⟩
    · exact ⟨_, exec_wrmode_finish hcause h⟩
    · exact ⟨_, exec_buzzer_finish h⟩
  rw [hexec]
  refine ⟨fun hlast hcause => ?writeFailed, fun hlast hcause => ?noFrame, fun f hlast hf hcmd => ?nack⟩
  case writeFailed => rw [concludeExchange_writeFailed hlast hcause]; rfl
  case noFrame => rw [concludeExchange_noFrame hlast hcause]; rfl
  case nack =>
    rw [concludeExchange_nack hlast hf hcmd]
    refine ⟨fun hlen hcode => ⟨_, rfl, ?sum⟩, fun hlen hcode => ⟨_, rfl, ?fmt⟩,
      fun hlen hsum hfmt => ⟨_, rfl, ?unknown⟩, fun hlen => ⟨_, rfl, ?bare⟩⟩
    case sum => rw [nackReturn_of_decodeNack (decodeNack_sum _ hf hcmd hlen hcode)]; rfl
    case fmt => rw [nackReturn_of_decodeNack (decodeNack_fmt _ hf hcmd hlen hcode)]; rfl
    case unknown => rw [nackReturn_of_decodeNack (decodeNack_unknown _ hf hcmd hlen hsum hfmt)]; rfl
    case bare => rw [nackReturn_of_decodeNack (decodeNack_bare _ hf hcmd hlen)]; rfl

/-- Settles O31: the text is VERSION_TEXT of the data section, by the number of characters kept. -/
theorem rdfwReturnsTheVersionText : Obligations.RdfwReturnsTheVersionText := by
  intro b s f h hlast hf hcmd
  rw [exec_rdfw_finish h, concludeExchange_frame hlast hf hcmd, ← isPrintable_eq_decide]
  refine ⟨fun hack hlen hdetail => ⟨_, versionText (dataOf f), rfl, versionText_of_four_le rfl,
    versionText_of_lt_four rfl, ?version⟩, fun hbad => ?bad⟩
  case version => rw [rdfwFrame_version ⟨hack, hlen, hdetail⟩]; rfl
  case bad => rw [rdfwFrame_bad hbad]; rfl

/-- Settles O32: MODE_RAW is written in the one branch that succeeds. -/
theorem rdmodeCapturesTheMode : Obligations.RdmodeCapturesTheMode := by
  intro b s f h hlast hf hcmd
  rw [exec_rdmode_finish h, concludeExchange_frame hlast hf hcmd]
  refine ⟨fun hack hlen hdetail => ?mode, fun hbad => ?bad⟩
  case mode => rw [rdmodeFrame_mode ⟨hack, hlen, hdetail⟩]; rfl
  case bad => rw [rdmodeFrame_bad hbad]; rfl

/-- Settles O33: both operations classify their last frame alike. -/
theorem wrmodeAndBuzzerNeedAnAck : Obligations.WrmodeAndBuzzerNeedAnAck := by
  intro i s f hi h hlast hf hcmd
  have hexec : exec i s = .next (s.concludeExchange State.ackFrame) := by
    rcases hi with ⟨b, rfl, hcause⟩ | ⟨rt, st, b, rfl⟩
    · exact exec_wrmode_finish hcause h
    · exact exec_buzzer_finish h
  rw [hexec, concludeExchange_frame hlast hf hcmd]
  refine ⟨fun hack => ?ack, fun hbad => ?bad⟩
  case ack => rw [ackFrame_ack hack]; rfl
  case bad => rw [ackFrame_bad hbad]; rfl

/-- Settles O23: accepted, then START leaves the loop at once, then FINISH returns. -/
theorem wrmodeFailsWithoutItsPrecondition : Obligations.WrmodeFailsWithoutItsPrecondition := by
  refine ⟨rfl, fun b s hb hmode => ?_⟩
  have hstart : (s.accept (.wrmode b)).At (.wrmode b) .start := ⟨rfl, rfl, rfl⟩
  exact ⟨_, _, exec_accepts rfl hb, exec_wrmode_start_precond hstart hmode,
    exec_wrmode_finish_precond ⟨rfl, rfl, rfl⟩ rfl⟩

/-- Settles O60: the five operations share SEND and differ in the frame they build. -/
theorem eachOperationSendsItsRequest : Obligations.EachOperationSendsItsRequest := by
  intro s b sent
  exact ⟨fun h => exec_send_request rfl h rfl rfl, fun h => exec_send_request rfl h rfl rfl,
    fun h => exec_send_request rfl h rfl rfl, fun _ _ h => exec_send_request rfl h rfl rfl,
    fun h => exec_send_request rfl h rfl rfl⟩

end Machine

end Sys2Proof

namespace Sys2Proof

/-! InventoryCollector (44_inventory.md): its check point, its return, and what each response frame does by the bytes of its payload. -/

/-! ### The fields of a built frame (30_encoding.md R106) -/

theorem byteAt_buildFrame_payload {addr cmd : Byte} {p : Bytes} {n : Nat} (h : n < p.length) :
    byteAt (buildFrame addr cmd p) (n + 4) = byteAt p n := by
  simp [buildFrame, frameBody, byteAt_append_left h]

namespace Machine

/-- The item of a tag record with this payload: the DSFID first, the UID reversed (20_memory.md R67). -/
def tagItem (p : Bytes) : Item :=
  ⟨#v[byteAt p 8, byteAt p 7, byteAt p 6, byteAt p 5, byteAt p 4, byteAt p 3, byteAt p 2, byteAt p 1],
    byteAt p 0⟩

section

variable {addr cmd : Byte} {p : Bytes}

theorem detailOf_buildFrame (hp : p.length ≤ 255) : detailOf (buildFrame addr cmd p) = p.head? := by
  rw [detailOf, frameLen_buildFrame hp]
  cases p with
  | nil => rfl
  | cons d rest => exact if_pos (by simp)

theorem nackCodeOf_buildFrame (hp : p.length ≤ 255) : nackCodeOf (buildFrame addr cmd p) = p.head? :=
  detailOf_buildFrame hp

theorem tagCountOf_buildFrame (hp : p.length ≤ 255) :
    tagCountOf (buildFrame addr cmd p) = p.tail.head?.map BitVec.toNat := by
  rw [tagCountOf, frameLen_buildFrame hp]
  match p with
  | [] | [_] => rfl
  | d :: n :: rest => exact if_pos (by simp)

theorem itemOf_buildFrame_long (hp : p.length ≤ 255) (hlen : 9 ≤ p.length) :
    itemOf (buildFrame addr cmd p) = some (tagItem p) := by
  have hbyte : ∀ n, n < 9 → byteAt (buildFrame addr cmd p) (n + 4) = byteAt p n :=
    fun n hn => byteAt_buildFrame_payload (by omega)
  rw [itemOf, frameLen_buildFrame hp, if_pos hlen, tagItem, ← hbyte 0, ← hbyte 1, ← hbyte 2, ← hbyte 3,
    ← hbyte 4, ← hbyte 5, ← hbyte 6, ← hbyte 7, ← hbyte 8] <;> decide

theorem itemOf_buildFrame_short (hlen : p.length < 9) : itemOf (buildFrame addr cmd p) = none := by
  rw [itemOf, frameLen_buildFrame (by omega), if_neg (by omega)]

end

section

variable {s : State} {addr : Byte} {p : Bytes}

/-! ### The check point (44_inventory.md R228) -/

theorem countReached_iff : s.countReached = true ↔ 0 ≤ s.expected ∧ s.expected ≤ (s.items.length : Int) := by
  simp [State.countReached, State.expectedKnown]

theorem raceCheck_reached (h : 0 ≤ s.expected ∧ s.expected ≤ (s.items.length : Int)) :
    s.raceCheck = s.leaveLoop .collected := by
  simp [State.raceCheck, State.isDone, State.afterDone, State.doneSamples, countReached_iff.2 h]

theorem countReached_eq_false (h : ¬(0 ≤ s.expected ∧ s.expected ≤ (s.items.length : Int))) :
    s.countReached = false :=
  Bool.eq_false_iff.2 (mt countReached_iff.1 h)

/-- With a tag seen and the count open, the silence decides. -/
theorem raceCheck_tagged (h : ¬(0 ≤ s.expected ∧ s.expected ≤ (s.items.length : Int))) (hu : s.haveUid = true) :
    s.raceCheck =
      if s.env.afterNow.clock - s.lastRx > s.cfg.silenceMs then s.sampled.leaveLoop .collected
      else s.sampled.continueScan := by
  simp [State.raceCheck, State.isDone, State.afterDone, State.doneSamples, State.silentAt,
    countReached_eq_false h, hu]

theorem raceCheck_untagged (h : ¬(0 ≤ s.expected ∧ s.expected ≤ (s.items.length : Int)))
    (hu : s.haveUid = false) : s.raceCheck = s.continueScan := by
  simp [State.raceCheck, State.isDone, State.afterDone, State.doneSamples, countReached_eq_false h, hu]

/-! ### FINISH (44_inventory.md R230, R231) -/

theorem inventoryFinish_empty (hitems : s.items = []) (herr : s.err = .clear) :
    s.inventoryFinish =
      State.finishWith .noTags [] { s with trace := s.trace ++ [.cmt .noTags], err := .noTags } :=
  if_pos ⟨hitems, herr⟩

theorem inventoryFinish_mirrors (h : ¬(s.items = [] ∧ s.err = .clear)) :
    s.inventoryFinish = s.finishWith s.err.status [] :=
  if_neg h

/-- Only ER_NONE is mirrored by ST_OK. -/
theorem InvError.status_eq_ok_iff {e : InvError} : e.status = .ok ↔ e = .clear := by
  cases e <;> decide

/-- No empty success (44_inventory.md R230). -/
theorem items_ne_nil_of_inventoryFinish_ok (h : s.inventoryFinish.resStatus = .ok) :
    s.inventoryFinish.items ≠ [] := by
  by_cases hempty : s.items = [] ∧ s.err = .clear
  · rw [inventoryFinish_empty hempty.1 hempty.2] at h
    cases h
  · rw [inventoryFinish_mirrors hempty] at h ⊢
    exact fun hitems => hempty ⟨hitems, InvError.status_eq_ok_iff.1 h⟩

/-! ### The response frames (44_inventory.md R223 to R225, R227) -/

/-- In the frame loop of INVENTORY a response frame is INVENTORY's to handle. -/
theorem handleResponse_inventory {exchange collect : State → State} (hb : s.busy = true) (hp : s.phase = .scan)
    (hx : s.rxByte = none) (hc : s.collecting = true) :
    handleResponse exchange collect s = .next (collect s) :=
  handleResponse_collecting hb hp hx (exchanging_eq_false_of_collecting hc) hc

/-- An ACK that announces a count (44_inventory.md R223). -/
theorem inventoryAck_count {d : Byte} {rest : Bytes} (hp : (0xF0 :: d :: rest : Bytes).length ≤ 255) :
    s.inventoryAck (buildFrame addr 0x30 (0xF0 :: d :: rest)) =
      State.raceCheck
        { s with
          trace := s.trace ++ [.recv (buildFrame addr 0x30 (0xF0 :: d :: rest))], expected := (d.toNat : Int) } := by
  rw [State.inventoryAck, detailOf_buildFrame hp, tagCountOf_buildFrame hp]
  rfl

/-- Any other ACK (44_inventory.md R223). -/
theorem inventoryAck_ignored (hp : p.length ≤ 255) (hcount : ∀ d rest, p ≠ 0xF0 :: d :: rest) :
    s.inventoryAck (buildFrame addr 0x30 p) =
      State.raceCheck { s with trace := s.trace ++ [.recv (buildFrame addr 0x30 p)] } := by
  rw [State.inventoryAck, detailOf_buildFrame hp, tagCountOf_buildFrame hp]
  match p, hcount with
  | [], _ => rfl
  | [_], _ => exact ite_self _
  | d :: d' :: rest, hcount =>
    exact if_neg fun hd : some d = some 0xF0 => hcount d' rest (by rw [Option.some.inj hd])

/-- A tag record (44_inventory.md R224). -/
theorem inventoryTag_long (hp : p.length ≤ 255) (hlen : 9 ≤ p.length) :
    s.inventoryTag (buildFrame addr 0x49 p) =
      State.raceCheck
        { s with
          trace := s.trace ++ [.recv (buildFrame addr 0x49 p)], items := s.items ++ [tagItem p]
          haveUid := true } := by
  rw [State.inventoryTag, itemOf_buildFrame_long hp hlen]
  rfl

/-- A record too short for a tag (44_inventory.md R224). -/
theorem inventoryTag_short (hlen : p.length < 9) :
    s.inventoryTag (buildFrame addr 0x49 p) =
      State.raceCheck { s with trace := s.trace ++ [.recv (buildFrame addr 0x49 p)] } := by
  rw [State.inventoryTag, itemOf_buildFrame_short hlen]
  rfl

theorem inventoryNack_eq (f : Bytes) (s : State) :
    s.inventoryNack f =
      { s with
        trace := s.trace ++ [.recv f, .cmt (.nack (decodeNack s.cfg.checksStx f).kind)]
        err := (decodeNack s.cfg.checksStx f).kind.invError
        out := [], cause := some .nack, phase := .finish } := by
  simp only [State.inventoryNack, State.note, State.leaveLoop, List.append_assoc]
  rfl

/-- The kind of a NACK is read from its first payload byte (45_translators.md R261). -/
theorem decodeNack_buildFrame_kind (checksStx : Bool) (hp : p.length ≤ 255) :
    (decodeNack checksStx (buildFrame addr 0x31 p)).kind =
      if p.head? = some 0x42 then .sum else if p.head? = some 0x44 then .fmt else .unknown := by
  rw [decodeNack_of_isFrame checksStx (isFrame_buildFrame addr 0x31 hp) rfl, nackCodeOf_buildFrame hp,
    apply_ite Nack.kind, apply_ite Nack.kind]

/-- The kind and the error of a NACK go together. -/
theorem nackKind_cases (checksStx : Bool) (addr : Byte) (hp : p.length ≤ 255) :
    ∃ kind e, (decodeNack checksStx (buildFrame addr 0x31 p)).kind = kind ∧ kind.invError = e ∧
      ((p.head? = some 0x42 ∧ kind = .sum ∧ e = .nackSum) ∨
        (p.head? = some 0x44 ∧ kind = .fmt ∧ e = .nackFmt) ∨
        (p.head? ≠ some 0x42 ∧ p.head? ≠ some 0x44 ∧ kind = .unknown ∧ e = .nackUnknown)) := by
  rw [decodeNack_buildFrame_kind checksStx hp]
  by_cases hsum : p.head? = some 0x42
  · exact ⟨.sum, .nackSum, if_pos hsum, rfl, .inl ⟨hsum, rfl, rfl⟩⟩
  · rw [if_neg hsum]
    by_cases hfmt : p.head? = some 0x44
    · exact ⟨.fmt, .nackFmt, if_pos hfmt, rfl, .inr (.inl ⟨hfmt, rfl, rfl⟩)⟩
    · exact ⟨.unknown, .nackUnknown, if_neg hfmt, rfl, .inr (.inr ⟨hsum, hfmt, rfl, rfl⟩)⟩

end

/-- Settles O36: the count is tested first, the silence only once a tag was seen. -/
theorem terminationRaceOfInventory : Obligations.TerminationRaceOfInventory := by
  refine ⟨rfl, fun s => ⟨fun h => ?reached, fun h hu hs => ?silent, fun h hu hs => ?waiting,
    fun h hu => ?untagged⟩⟩
  case reached => exact raceCheck_reached h
  case silent => exact (raceCheck_tagged h hu).trans (if_pos hs)
  case waiting => exact (raceCheck_tagged h hu).trans ((if_neg (Nat.not_lt.2 hs)).trans (continueScan_eq _))
  case untagged => exact (raceCheck_untagged h hu).trans (continueScan_eq s)

/-- Settles O34: START is one state update. -/
theorem inventoryStartClearsItsResults : Obligations.InventoryStartClearsItsResults :=
  fun _ _ h => execInventory_start h

/-- Settles O37: FINISH writes ER_NO_TAGS where it would mirror ER_NONE without an item. -/
theorem inventoryNeverReturnsAnEmptySuccess : Obligations.InventoryNeverReturnsAnEmptySuccess := by
  intro b s h
  have hexec : exec (.inventory b) s = .next s.inventoryFinish := execInventory_finish h
  rw [hexec]
  refine ⟨fun hitems herr => ?empty, fun hsome => ⟨s.err.status, ?mirrors⟩, fun t ht hok => ?success⟩
  case empty => rw [inventoryFinish_empty hitems herr]; rfl
  case mirrors =>
    have hstatus : ∀ e, s.err = e → s.err.status = e.status := fun _ => congrArg InvError.status
    exact ⟨hstatus .clear, hstatus .noTags, hstatus .writeFailed, hstatus .nackSum, hstatus .nackFmt,
      hstatus .nackUnknown, congrArg _ (inventoryFinish_mirrors hsome)⟩
  case success =>
    cases ht
    exact items_ne_nil_of_inventoryFinish_ok hok

/-- Settles O35: each frame is INVENTORY's to handle, and its payload decides what it does. -/
theorem inventoryHandlesResponses : Obligations.InventoryHandlesResponses := by
  intro s addr payload hlen hb hp hx hc
  refine ⟨fun n rest hcount => ?count, fun hcount => ?ack, fun d w0 w1 w2 w3 w4 w5 w6 w7 rest htag => ?tag,
    fun hshort => ?short, ?nack, fun cmd _ => handleResponse_inventory hb hp hx hc⟩
  case count =>
    subst hcount
    exact (handleResponse_inventory hb hp hx hc).trans (congrArg _ (inventoryAck_count hlen))
  case ack => exact (handleResponse_inventory hb hp hx hc).trans (congrArg _ (inventoryAck_ignored hlen hcount))
  case tag =>
    subst htag
    exact (handleResponse_inventory hb hp hx hc).trans (congrArg _ (inventoryTag_long hlen (by simp)))
  case short => exact (handleResponse_inventory hb hp hx hc).trans (congrArg _ (inventoryTag_short hshort))
  case nack =>
    obtain ⟨_, _, rfl, rfl, hkind⟩ := nackKind_cases s.cfg.checksStx addr hlen
    exact ⟨_, _, hkind, (handleResponse_inventory hb hp hx hc).trans (congrArg _ (inventoryNack_eq _ s))⟩

end Machine

end Sys2Proof

namespace Sys2Proof

/-! A whole run of INVENTORY to the announced count (44_inventory.md R228, R237): no delay, no noise, no empty poll. -/

namespace Machine

section

variable {s u : State} {b : Nat} {x : Byte} {f got todo p : Bytes} {q later : List (Option Byte)}
  {its : List Item} {ex : Int} {k n c : Nat} {e : Env}

/-! ### What the environment still holds -/

theorem Env.Still.mono (h : e.Still n) (hk : k ≤ n) : e.Still k := by
  obtain ⟨m, hm, hq⟩ := h
  exact ⟨m, hk.trans hm, hq⟩

/-- The answers of `T.read_byte` are `q`, and for `n` more samples the time stays `c`. -/
structure Env.Delivers (q : List (Option Byte)) (c n : Nat) (e : Env) : Prop where
  readQ : e.readQ = q
  clock : e.clock = c
  still : e.Still n

theorem Env.Delivers.mono (h : e.Delivers q c n) (hk : k ≤ n) : e.Delivers q c k :=
  ⟨h.readQ, h.clock, h.still.mono hk⟩

theorem Env.Delivers.afterNow (h : e.Delivers q c (n + 1)) : e.afterNow.Delivers q c n :=
  ⟨h.readQ, h.still.afterNow.1.trans h.clock, h.still.afterNow.2⟩

theorem Env.Delivers.afterRead {a : Option Byte} (ms : Nat) (h : e.Delivers (a :: q) c n) :
    (e.afterRead ms).Delivers q c n :=
  ⟨congrArg List.tail h.readQ, h.clock, h.still⟩

/-! ### One byte, and the bytes of one frame (44_inventory.md R226) -/

/-- INVENTORY after SCAN of a byte at which the time was sampled: `rb` is buffered, `out` emitted. -/
def State.heard (rb : Bytes) (out : List Bytes) (e : Env) (s : State) : State :=
  { s.tick with
    rb := rb, out := out, rxByte := none, lastRx := e.clock, env := e
    phase := if out = [] then .check else .scan }

theorem step_scan_byte_inventory (hq : s.Quiet) (h : s.At (.inventory b) .scan) (hx : s.rxByte = some x) :
    step s = .next
      (s.heard (scanAll s.cfg.checksStx (s.rb ++ [x])).1 (scanAll s.cfg.checksStx (s.rb ++ [x])).2
        s.env.afterNow) := by
  have hfetch : fetchBusy s.tick = .run (.inventory b) s.tick :=
    (fetchBusy_byte (s := s.tick) h.2.2 (.inl (by simp [hx]))).trans (fetchOperation_some h.2.1)
  calc step s = exec (.inventory b) s.tick := step_of_fetchBusy hq.1 hq.2 h.1 hfetch
    _ = .next s.tick.inventoryScan := execInventory_scan h
    _ = _ := by rw [inventoryScan_byte (s := s.tick) hx, continueScan_eq]; rfl

/-- CHECK before the deadline, POLL with a byte, SCAN of this byte. -/
theorem run_byteTurn_inventory (hq : s.Quiet) (h : s.At (.inventory b) .check)
    (hearly : s.env.afterNow.clock < s.deadline) (hr : s.env.readQ = some x :: q) :
    Host.Core.run Sys2Proof.core 3 s = .next
      (s.heard (scanAll s.cfg.checksStx (s.rb ++ [x])).1 (scanAll s.cfg.checksStx (s.rb ++ [x])).2
        (s.env.afterNow.afterRead s.cfg.pollMs).afterNow) := by
  obtain ⟨hb, ho, -⟩ := id h
  have hpoll := step_poll_byte (i := .inventory b) (s := { s.tick with env := s.env.afterNow, phase := .poll })
    rfl hq ⟨hb, ho, rfl⟩ hr
  exact (run_succ (step_check_early rfl hq h hearly)).trans
    ((run_succ hpoll).trans (run_one (step_scan_byte_inventory hq ⟨hb, ho, rfl⟩ rfl)))

/-- Byte by byte to the end of a frame, which is emitted alone. -/
theorem run_frame_inventory (hq : s.Quiet) (h : s.At (.inventory b) .check) (hrb : s.rb = got)
    (htodo : todo ≠ []) (hf : IsFrame (got ++ todo))
    (henv : s.env.Delivers (todo.map some ++ q) c (2 * todo.length + n)) (hearly : c < s.deadline) :
    ∃ m e, Host.Core.run Sys2Proof.core m s = .next (s.heard [] [got ++ todo] e) ∧ e.Delivers q c n := by
  induction todo generalizing s got with
  | nil => exact absurd rfl htodo
  | cons x todo ih =>
    have hlen : 2 * (x :: todo).length + n = 2 * todo.length + n + 1 + 1 := by rw [List.length_cons]; omega
    rw [hlen] at henv
    have hturn := run_byteTurn_inventory hq h (henv.afterNow.clock.trans_lt hearly) henv.readQ
    have henv' := (henv.afterNow.afterRead s.cfg.pollMs).afterNow
    rw [hrb] at hturn
    cases todo with
    | nil =>
      rw [scanAll_frame _ hf] at hturn
      exact ⟨3, _, hturn, henv'.mono (by omega)⟩
    | cons x' todo =>
      rw [List.append_cons] at hf ⊢
      rw [scanAll_of_atWait _ (hf.atWait_of_append nofun)] at hturn
      obtain ⟨m, e, hrun, he⟩ :=
        ih (s := s.heard (got ++ [x]) [] _) hq ⟨h.1, h.2.1, rfl⟩ rfl nofun hf henv' hearly
      exact ⟨3 + m, e, run_trans hturn hrun, he⟩

/-- In the frame loop of INVENTORY the step handles the next frame. -/
theorem step_scan_frame_inventory {rest : List Bytes} (hq : s.Quiet) (hb : s.busy = true)
    (hc : s.collecting = true) (hf : s.Handles f rest) (hframe : IsFrame f) :
    step s = .next (State.inventoryFrame f { s.tick with out := rest }) := by
  obtain ⟨hp, hx, hout⟩ := hf
  have hd : decode (.rx f) = .ok (responseOfFields (frameAddr f) (frameCmd f) (framePayload f)) := if_pos hframe
  obtain ⟨henc, hwf⟩ := encode_of_decodeRx hd
  obtain ⟨-, -, hhandle, -⟩ := stepContinuesTheOperation s hq.1 hq.2
  rw [hhandle f rest _ hb hp hx hout hd, exec_of_encode_rx henc hwf]
  exact handleResponse_inventory hb hp hx hc

/-! ### Between two frames -/

/-- INVENTORY stands at `ph` between two frames with the items `its` and EXPECTED `ex`; the answers `q` are still to come, and for `n` more samples no time passes since the last byte. -/
structure State.Collects (b : Nat) (ph : Phase) (ex : Int) (its : List Item) (q : List (Option Byte)) (n : Nat)
    (s : State) : Prop where
  stands : s.At (.inventory b) ph
  quiet : s.Quiet
  rb : s.rb = []
  out : s.out = []
  expected : s.expected = ex
  items : s.items = its
  err : s.err = .clear
  env : s.env.Delivers q s.lastRx n
  early : s.lastRx < s.deadline

/-- A frame arrives: it is handled, no time having passed, with one sample to spare for the check point. -/
theorem State.Collects.hears (h : s.Collects b .check ex its (f.map some ++ q) (3 * f.length + n))
    (hf : IsFrame f) :
    ∃ m, ∃ u : State, Host.Core.run Sys2Proof.core m s = .next (u.inventoryFrame f) ∧
      u.Collects b .scan ex its q (n + 1) := by
  have hlen := hf.isCandidate.length_pos
  obtain ⟨m, e, hrun, he⟩ := run_frame_inventory h.quiet h.stands h.rb (List.ne_nil_of_length_pos hlen) hf
    (h.env.mono (show 2 * f.length + (n + 1) ≤ _ by omega)) h.early
  obtain ⟨hb, ho, -⟩ := h.stands
  have hstep := step_scan_frame_inventory (s := s.heard [] [f] e) h.quiet hb (collecting_of_op ho)
    ⟨rfl, rfl, rfl⟩ hf
  exact ⟨m + 1, _, run_trans hrun (run_one hstep), {
    stands := ⟨hb, ho, rfl⟩
    quiet := h.quiet
    rb := rfl
    out := rfl
    expected := h.expected
    items := h.items
    err := h.err
    env := ⟨he.readQ, rfl, he.still⟩
    early := he.clock.trans_lt h.early }⟩

/-- At a check point with the count open and no silence the loop goes on (44_inventory.md R228). -/
theorem State.Collects.goesOn (h : s.Collects b .scan ex its q (n + 1)) (hopen : (its.length : Int) < ex) :
    s.raceCheck.Collects b .check ex its q n := by
  have hopen' : ¬(0 ≤ s.expected ∧ s.expected ≤ (s.items.length : Int)) := by
    rw [h.expected, h.items]; omega
  obtain ⟨hb, ho, -⟩ := h.stands
  have hgo : ∀ e : Env, e.Delivers q s.lastRx n →
      (State.continueScan { s with env := e }).Collects b .check ex its q n := fun e he => {
    stands := ⟨hb, ho, by simp [h.out]⟩
    quiet := h.quiet
    rb := h.rb
    out := h.out
    expected := h.expected
    items := h.items
    err := h.err
    env := he
    early := h.early }
  cases hu : s.haveUid with
  | false => rw [raceCheck_untagged hopen' hu]; exact hgo s.env (h.env.mono (Nat.le_succ n))
  | true =>
    have hsilent : ¬s.env.afterNow.clock - s.lastRx > s.cfg.silenceMs := by
      rw [h.env.afterNow.clock]; omega
    rw [raceCheck_tagged hopen' hu, if_neg hsilent]
    exact hgo s.env.afterNow h.env.afterNow

/-! ### The three kinds of frame of the run -/

theorem inventoryFrame_ack (addr : Byte) (p : Bytes) (s : State) :
    s.inventoryFrame (buildFrame addr 0x30 p) = s.inventoryAck (buildFrame addr 0x30 p) := rfl

theorem inventoryFrame_uid (addr : Byte) (p : Bytes) (s : State) :
    s.inventoryFrame (buildFrame addr 0x49 p) = s.inventoryTag (buildFrame addr 0x49 p) := rfl

/-- The count is announced before any tag (44_inventory.md R223). -/
theorem State.Collects.announces {addr d : Byte} (hd : d ≠ 0)
    (h : s.Collects b .check ex [] ((buildFrame addr 0x30 [0xF0, d]).map some ++ q)
      (3 * (buildFrame addr 0x30 [0xF0, d]).length + n)) :
    ∃ m t, Host.Core.run Sys2Proof.core m s = .next t ∧ t.Collects b .check (d.toNat : Int) [] q n := by
  have hp : ([0xF0, d] : Bytes).length ≤ 255 := by simp
  obtain ⟨m, u, hrun, hu⟩ := h.hears (isFrame_buildFrame addr 0x30 hp)
  rw [inventoryFrame_ack, inventoryAck_count hp] at hrun
  have hpos : d.toNat ≠ 0 := fun h0 => hd (BitVec.eq_of_toNat_eq h0)
  exact ⟨m, _, hrun, State.Collects.goesOn { hu with expected := rfl } (by rw [List.length_nil]; omega)⟩

/-- A tag record leads to a check point with its item appended (44_inventory.md R224). -/
theorem State.Collects.hearsTag {addr : Byte} (hlong : 9 ≤ p.length) (hp : p.length ≤ 255)
    (h : s.Collects b .check ex its ((buildFrame addr 0x49 p).map some ++ q)
      (3 * (buildFrame addr 0x49 p).length + n)) :
    ∃ m, ∃ u : State, Host.Core.run Sys2Proof.core m s = .next u.raceCheck ∧
      u.Collects b .scan ex (its ++ [tagItem p]) q (n + 1) := by
  obtain ⟨m, u, hrun, hu⟩ := h.hears (isFrame_buildFrame addr 0x49 hp)
  rw [inventoryFrame_uid, inventoryTag_long hp hlong] at hrun
  exact ⟨m, _, hrun, { hu with items := congrArg (· ++ [tagItem p]) hu.items }⟩

/-! ### The end of the run -/

/-- A run from `s` returns ST_OK with the items `its` and EXPECTED `ex`, the answers `later` unread. -/
def State.Reports (ex : Int) (its : List Item) (later : List (Option Byte)) (s : State) : Prop :=
  ∃ n t, Host.Core.run Sys2Proof.core n s = .next t ∧ t.busy = false ∧ t.done = true ∧ t.resStatus = .ok ∧
    t.err = .clear ∧ t.expected = ex ∧ t.items = its ∧ t.env.readQ = later

theorem reports_of_run (h : Host.Core.run Sys2Proof.core n s = .next u) (hu : u.Reports ex its later) :
    s.Reports ex its later := by
  obtain ⟨k, t, hrun, hend⟩ := hu
  exact ⟨n + k, t, run_trans h hrun, hend⟩

/-- At the check point that finds the count reached the loop ends, and FINISH returns ST_OK (44_inventory.md R228, R231). -/
theorem State.Collects.reports_of_reached (h : s.Collects b .scan ex its q n) (hreached : 0 ≤ ex ∧ ex ≤ (its.length : Int))
    (hsome : its ≠ []) : s.raceCheck.Reports ex its q := by
  rw [← h.expected, ← h.items] at hreached
  obtain ⟨hb, ho, -⟩ := h.stands
  rw [raceCheck_reached hreached]
  have hfinish : step (s.leaveLoop .collected) = .next ((s.leaveLoop .collected).tick.finishWith s.err.status []) :=
    calc step (s.leaveLoop .collected)
      _ = exec (.inventory b) (s.leaveLoop .collected).tick := step_plain h.quiet ⟨hb, ho, rfl⟩ nofun nofun
      _ = .next (s.leaveLoop .collected).tick.inventoryFinish := execInventory_finish ⟨hb, ho, rfl⟩
      _ = _ := congrArg _ (inventoryFinish_mirrors fun hempty => hsome (h.items.symm.trans hempty.1))
  exact ⟨1, _, run_one hfinish, rfl, rfl, InvError.status_eq_ok_iff.2 h.err, h.err, h.expected, h.items,
    h.env.readQ⟩

/-- The bytes of tag records, one after the other: an address and a payload each. -/
def tagRecords (tags : List (Byte × Bytes)) : Bytes := (tags.map fun g => buildFrame g.1 0x49 g.2).flatten

theorem tagRecords_cons (g : Byte × Bytes) (tags : List (Byte × Bytes)) :
    tagRecords (g :: tags) = buildFrame g.1 0x49 g.2 ++ tagRecords tags := rfl

/-- Record by record to the last tag announced (44_inventory.md R237). -/
theorem State.Collects.reports_of_tagRecords {tags : List (Byte × Bytes)}
    (h : s.Collects b .check ex its ((tagRecords tags).map some ++ later) (3 * (tagRecords tags).length))
    (hcount : ((its.length + tags.length : Nat) : Int) = ex) (hsome : tags ≠ [])
    (hlen : ∀ g ∈ tags, 9 ≤ g.2.length ∧ g.2.length ≤ 255) :
    s.Reports ex (its ++ tags.map fun g => tagItem g.2) later := by
  induction tags generalizing s its with
  | nil => exact absurd rfl hsome
  | cons g tags ih =>
    obtain ⟨⟨hlong, hshort⟩, hlen'⟩ := List.forall_mem_cons.1 hlen
    rw [tagRecords_cons, List.map_append, List.append_assoc, List.length_append, Nat.mul_add] at h
    obtain ⟨m, u, hrun, hu⟩ := h.hearsTag hlong hshort
    rw [List.map_cons, List.append_cons]
    have hgot : (its ++ [tagItem g.2]).length = its.length + 1 := by simp
    rw [List.length_cons] at hcount
    refine reports_of_run hrun ?_
    cases tags with
    | nil =>
      rw [List.length_nil] at hcount
      rw [List.map_nil, List.append_nil]
      exact hu.reports_of_reached (by omega) (by simp)
    | cons g' tags =>
      rw [List.length_cons] at hcount
      exact ih (hu.goesOn (by omega)) (by rw [List.length_cons]; omega) nofun hlen'

/-- START and SEND of INVENTORY whose request is accepted lead to CHECK with nothing collected. -/
theorem run_start_send_inventory (hb : 1 ≤ b) (hq : s.Quiet) (h : s.At (.inventory b) .start) (hout : s.out = [])
    (hw : s.env.writeQ.head? = some true) (hstill : s.env.Still (n + 1)) :
    ∃ t, Host.Core.run Sys2Proof.core 2 s = .next t ∧ t.Collects b .check (-1) [] s.env.readQ n := by
  have hstart : step s = .next (s.tick.inventoryStart b) :=
    (step_plain hq h nofun nofun).trans (execInventory_start h)
  obtain ⟨bytes, hr⟩ := requestBytes_of_usesTransport (s := s) (i := .inventory b) rfl h.2.1
  have hsend := step_send_accepted (i := .inventory b) (s := s.tick.inventoryStart b) hq ⟨h.1, h.2.1, rfl⟩ hr
    (writeAnswer_of_head? hw)
  exact ⟨_, (run_succ hstart).trans (run_one hsend), {
    stands := ⟨h.1, h.2.1, rfl⟩
    quiet := hq
    rb := rfl
    out := hout
    expected := rfl
    items := rfl
    err := rfl
    env := ⟨rfl, rfl, hstill.afterNow.2⟩
    early := Nat.lt_add_of_pos_right hb }⟩

end

/-- Settles O57: the ACK announces the count, each record but the last leaves it open, the last one reaches it. -/
theorem inventoryEndsAtTheAnnouncedCount : Obligations.InventoryEndsAtTheAnnouncedCount := by
  intro s b k later a tags h hb _ hout _ hreset hreq hsome hmany hlen bytes hw hread hnow hk
  have hd : (BitVec.ofNat 8 tags.length).toNat = tags.length := Nat.mod_eq_of_lt (by omega)
  have hd0 : BitVec.ofNat 8 tags.length ≠ 0 := fun h0 => by
    have := congrArg BitVec.toNat h0
    rw [hd] at this
    exact absurd hsome (by rw [this]; decide)
  obtain ⟨u, hrun, hu⟩ := run_start_send_inventory hb ⟨hreset, hreq⟩ h hout hw ⟨k, hk, hnow⟩
  have hbytes : bytes = buildFrame a 0x30 [0xF0, BitVec.ofNat 8 tags.length] ++ tagRecords tags := rfl
  rw [hread, hbytes, List.map_append, List.append_assoc, List.length_append, Nat.mul_add] at hu
  obtain ⟨m, v, hrun', hv⟩ := hu.announces hd0
  rw [hd] at hv
  exact reports_of_run (run_trans hrun hrun')
    (hv.reports_of_tagRecords (by simp) (List.ne_nil_of_length_pos hsome) hlen)

end Machine

end Sys2Proof

namespace Sys2Proof

/-! ModeTranslator and the NACK decoder (45_translators.md): what their two functions return, and the operations DECMODE and DECNACK. -/

namespace Machine

/-! ### The six fields of a mode (45_translators.md R252 to R255) -/

section

variable {cfg : Cfg} {raw : Bytes} {table : List (Byte × ModeName)} {m : Byte}

/-- Keys occur once, so an entry of the table is the one that is found (45_translators.md R252). -/
theorem modeNameOf_of_mem {n : ModeName} (hkeys : (table.map Prod.fst).Nodup) (hn : (m, n) ∈ table) :
    modeNameOf table m = .named n := by
  obtain ⟨before, later, rfl⟩ := List.append_of_mem hn
  rw [List.map_append, List.map_cons] at hkeys
  have hm : m ∉ before.map Prod.fst ++ later.map Prod.fst := (List.nodup_cons.1 (List.nodup_middle.1 hkeys)).1
  have hfind : (before ++ (m, n) :: later).lookup m = some n :=
    List.lookup_eq_some_iff.2 ⟨before, later, rfl, fun p hp =>
      bne_iff_ne.2 fun heq => hm (heq ▸ List.mem_append_left _ (List.mem_map_of_mem hp))⟩
  rw [modeNameOf, hfind]

theorem modeNameOf_of_no_entry (hm : ∀ n, (m, n) ∉ table) : modeNameOf table m = .unknown m := by
  have hfind : table.lookup m = none :=
    List.lookup_eq_none_iff.2 fun p hp => bne_iff_ne.2 fun heq => hm p.2 (heq ▸ hp)
  rw [modeNameOf, hfind]

/-- A mask of one bit tests that bit. -/
theorem ite_and_twoPow {α : Type} (g : Byte) {i : Nat} (hi : i < 8) (clear set : α) :
    (if g &&& BitVec.twoPow 8 i = 0 then clear else set) = if g.getLsbD i then set else clear := by
  have hmask : BitVec.twoPow 8 i ≠ 0 := fun h0 => by
    have := congrArg (BitVec.getLsbD · i) h0
    simp [hi] at this
  rw [BitVec.and_twoPow]
  cases g.getLsbD i with
  | false => rfl
  | true => exact if_neg hmask

/-- The top two bits of byte 3 select the label (45_translators.md R254). -/
theorem baudOf_select (b : Byte) :
    (b.toNat / 64 = 0 → baudOf b = .b19200) ∧ (b.toNat / 64 = 1 → baudOf b = .b9600) ∧
      (b.toNat / 64 = 2 → baudOf b = .b38400) ∧ (b.toNat / 64 = 3 → baudOf b = .b115200) := by
  refine ⟨?_, ?_, ?_, ?_⟩ <;> (intro h; rw [baudOf, h]; rfl)

theorem decodeMode_short (h : raw.length < 4) : decodeMode cfg raw = Pretty.empty := if_pos h

/-- The fields of an input of four bytes or more, the bits of byte 2 tested by their masks (45_translators.md R252 to R254). -/
theorem decodeMode_long (h : 4 ≤ raw.length) :
    decodeMode cfg raw =
      { modeName := modeNameOf cfg.modeNames (byteAt raw 0)
        anticollision := if byteAt raw 2 &&& 0x04 = 0 then .disabled else .enabled
        readBehavior := if byteAt raw 2 &&& 0x08 = 0 then .singleShot else .continuous
        buzzer := if byteAt raw 2 &&& 0x10 = 0 then (bif cfg.buzzerSetMeansOn then .off else .on)
          else (bif cfg.buzzerSetMeansOn then .on else .off)
        txData := if byteAt raw 2 &&& 0x20 = 0 then .userDataOnly else .userDataPlusUid
        baud := baudOf (byteAt raw 3) } := by
  refine (if_neg (by omega)).trans ?_
  dsimp only
  generalize byteAt raw 2 = g
  congr 1
  case e_anticollision => exact (ite_and_twoPow g (i := 2) (by decide) ..).symm
  case e_readBehavior => exact (ite_and_twoPow g (i := 3) (by decide) ..).symm
  case e_buzzer =>
    refine Eq.trans ?_ (ite_and_twoPow g (i := 4) (by decide) ..).symm
    cases cfg.buzzerSetMeansOn <;> cases g.getLsbD 4 <;> rfl
  case e_txData => exact (ite_and_twoPow g (i := 5) (by decide) ..).symm

end

/-- Settles O13: the table by its keys, the bits of byte 2 by their masks, the label by the top two bits. -/
theorem decmodeDecodesTheSixFields : Obligations.DecmodeDecodesTheSixFields := by
  rintro raw s hb ⟨-, -, hkeys, -⟩
  refine ⟨decodeMode s.cfg raw, decodeMode_short, fun hlen => ?fields, ?run⟩
  case fields =>
    rw [decodeMode_long hlen]
    exact ⟨fun _ => modeNameOf_of_mem hkeys, modeNameOf_of_no_entry, rfl, rfl, fun hon => by rw [hon]; rfl,
      fun hoff => by rw [hoff]; rfl, rfl, baudOf_select _⟩
  case run => exact exec_returns_of_pureOp (.decmode raw) rfl hb fun _ => ⟨rfl, rfl⟩

/-! ### The classes of a NACK (45_translators.md R261) -/

section

variable {c : Bool} {f : Bytes}

theorem decodeNack_invalid (h : ¬(validateFrame c f = true ∧ byteAt f 2 = 0x31)) :
    decodeNack c f = ⟨.invalid, none⟩ :=
  if_neg fun hboth => h ((Bool.and_eq_true_iff.1 hboth).imp_right beq_iff_eq.1)

/-- With VALIDATE as configured, also where it leaves STX unchecked. -/
theorem decodeNack_valid (hv : validateFrame c f = true) (hcmd : byteAt f 2 = 0x31) :
    decodeNack c f =
      if nackCodeOf f = some 0x42 then ⟨.sum, nackCodeOf f⟩
      else if nackCodeOf f = some 0x44 then ⟨.fmt, nackCodeOf f⟩
      else ⟨.unknown, nackCodeOf f⟩ :=
  if_pos (Bool.and_eq_true_iff.2 ⟨hv, beq_iff_eq.2 hcmd⟩)

end

/-- Settles O14: without a code no test succeeds, with one the tests are those of the byte. -/
theorem decnackClassifiesTheCode : Obligations.DecnackClassifiesTheCode := by
  intro f s hb
  refine ⟨decodeNack s.cfg.checksStx f, decodeNack_invalid, fun hv hcmd => ?classes, ?run⟩
  case classes =>
    rw [decodeNack_valid hv hcmd]
    constructor
    · intro hbare
      rw [nackCodeOf_bare hbare]; rfl
    · intro hcode
      rw [nackCodeOf_payload hcode]
      refine ⟨fun hsum => by rw [hsum]; rfl, fun hfmt => by rw [hfmt]; rfl, fun hsum hfmt => ?_⟩
      rw [if_neg (mt Option.some.inj hsum), if_neg (mt Option.some.inj hfmt)]
  case run => exact exec_returns_of_pureOp (.decnack f) rfl hb fun _ => ⟨rfl, rfl⟩

end Machine

end Sys2Proof

namespace Sys2Proof

/-! The ghost lists are write-only (60_exceptions.md R300, R302): no function of the model reads the trace or the log of port calls. -/

namespace Machine

/-- `g` does not read the ghost lists: without them its result, seen through `view`, is the same. -/
def GhostBlind {α : Type} (view : α → α) (g : State → α) : Prop :=
  ∀ s, view (g s.eraseGhosts) = view (g s)

namespace GhostBlind

section

variable {α : Type} {view : α → α} {f g : State → α} {k : State → State}

theorem ite {p : State → Prop} [DecidablePred p] (hp : ∀ s, p s.eraseGhosts ↔ p s) (hf : GhostBlind view f)
    (hg : GhostBlind view g) : GhostBlind view fun s => if p s then f s else g s := by
  intro s
  simp only [hp]
  split
  · exact hf s
  · exact hg s

/-- The ghost lists an earlier update left are read no more than those before it. -/
theorem after (hg : GhostBlind view g) (hk : GhostBlind State.eraseGhosts k) :
    GhostBlind view fun s => g (k s) := by
  intro s
  calc view (g (k s.eraseGhosts)) = view (g (k s.eraseGhosts).eraseGhosts) := (hg _).symm
    _ = view (g (k s).eraseGhosts) := by rw [hk s]
    _ = view (g (k s)) := hg _

theorem next (hk : GhostBlind State.eraseGhosts k) :
    GhostBlind (mapNext State.eraseGhosts) fun s => .next (k s) :=
  fun s => congrArg Host.Outcome.next (hk s)

theorem settled (hk : GhostBlind State.eraseGhosts k) :
    GhostBlind (Fetched.map State.eraseGhosts) fun s => .settled (k s) :=
  fun s => congrArg Fetched.settled (hk s)

end

end GhostBlind

section

variable (s : State)

/-! ### Fields -/

@[simp] theorem eraseGhosts_phase : s.eraseGhosts.phase = s.phase := rfl
@[simp] theorem eraseGhosts_requestBytes : s.eraseGhosts.requestBytes = s.requestBytes := rfl
@[simp] theorem eraseGhosts_rxByte : s.eraseGhosts.rxByte = s.rxByte := rfl
@[simp] theorem eraseGhosts_out : s.eraseGhosts.out = s.out := rfl
@[simp] theorem eraseGhosts_cause : s.eraseGhosts.cause = s.cause := rfl
@[simp] theorem eraseGhosts_acc : s.eraseGhosts.acc = s.acc := rfl
@[simp] theorem eraseGhosts_busy : s.eraseGhosts.busy = s.busy := rfl
@[simp] theorem eraseGhosts_cfg : s.eraseGhosts.cfg = s.cfg := rfl
@[simp] theorem eraseGhosts_op : s.eraseGhosts.op = s.op := rfl
@[simp] theorem eraseGhosts_request : s.eraseGhosts.request = s.request := rfl
@[simp] theorem eraseGhosts_program : s.eraseGhosts.program = s.program := rfl
@[simp] theorem eraseGhosts_readAnswer : s.eraseGhosts.env.readAnswer = s.env.readAnswer := rfl

end

/-! ### The shared engine steps -/

theorem transmit_ghostBlind (b : Bytes) : GhostBlind State.eraseGhosts (State.transmit b) :=
  .ite (fun _ => .rfl) (fun _ => rfl) fun _ => rfl

theorem sendRequest_ghostBlind : GhostBlind State.eraseGhosts State.sendRequest := by
  intro s
  unfold State.sendRequest
  rw [eraseGhosts_requestBytes]
  cases s.requestBytes with
  | some b => exact transmit_ghostBlind b s
  | none => rfl

theorem checkDeadline_ghostBlind : GhostBlind State.eraseGhosts State.checkDeadline :=
  .ite (fun _ => .rfl) (fun _ => rfl) fun _ => rfl

theorem pollByte_ghostBlind : GhostBlind State.eraseGhosts State.pollByte := by
  intro s
  unfold State.pollByte
  rw [eraseGhosts_readAnswer]
  cases s.env.readAnswer <;> rfl

theorem continueScan_ghostBlind : GhostBlind State.eraseGhosts State.continueScan := fun _ => rfl

theorem leaveLoop_ghostBlind (c : EndCause) : GhostBlind State.eraseGhosts (State.leaveLoop c) := fun _ => rfl

/-! ### TRANSACT and its composites -/

theorem wrmodeStart_ghostBlind (b : Nat) : GhostBlind State.eraseGhosts (State.wrmodeStart b) :=
  .ite (fun _ => .rfl) (fun _ => rfl) fun _ => rfl

theorem exchangeTerminal_ghostBlind (f : Bytes) : GhostBlind State.eraseGhosts (State.exchangeTerminal f) :=
  .ite (fun _ => .rfl) (fun _ => rfl) fun _ => rfl

theorem exchangeFrame_ghostBlind (f : Bytes) : GhostBlind State.eraseGhosts (State.exchangeFrame f) :=
  .ite (fun _ => .rfl) (exchangeTerminal_ghostBlind f) fun _ => rfl

theorem exchangeScan_ghostBlind : GhostBlind State.eraseGhosts State.exchangeScan := by
  intro s
  unfold State.exchangeScan
  rw [eraseGhosts_rxByte, eraseGhosts_out]
  split
  · rfl
  · next f rest _ _ => exact exchangeFrame_ghostBlind f { s with out := rest }
  · rfl

theorem transactFinish_ghostBlind : GhostBlind State.eraseGhosts State.transactFinish := by
  intro s
  unfold State.transactFinish
  rw [eraseGhosts_cause]
  split <;> rfl

theorem rdfwFrame_ghostBlind (f : Bytes) : GhostBlind State.eraseGhosts (State.rdfwFrame f) :=
  .ite (fun _ => .rfl) (fun _ => rfl) fun _ => rfl

theorem rdmodeFrame_ghostBlind (f : Bytes) : GhostBlind State.eraseGhosts (State.rdmodeFrame f) :=
  .ite (fun _ => .rfl) (fun _ => rfl) fun _ => rfl

theorem ackFrame_ghostBlind (f : Bytes) : GhostBlind State.eraseGhosts (State.ackFrame f) :=
  .ite (fun _ => .rfl) (fun _ => rfl) fun _ => rfl

theorem concludeExchange_ghostBlind {onFrame : Bytes → State → State}
    (h : ∀ f, GhostBlind State.eraseGhosts (onFrame f)) :
    GhostBlind State.eraseGhosts (State.concludeExchange onFrame) := by
  intro s
  unfold State.concludeExchange
  rw [eraseGhosts_acc, eraseGhosts_cause, eraseGhosts_cfg]
  split
  · split <;> rfl
  · split
    · split
      · rfl
      · exact h _ s
    · rfl

theorem wrmodeFinish_ghostBlind : GhostBlind State.eraseGhosts State.wrmodeFinish :=
  .ite (fun _ => .rfl) (fun _ => rfl) (concludeExchange_ghostBlind ackFrame_ghostBlind)

/-! ### INVENTORY -/

theorem afterDone_ghostBlind : GhostBlind State.eraseGhosts State.afterDone :=
  .ite (fun _ => .rfl) (fun _ => rfl) fun _ => rfl

theorem raceCheck_ghostBlind : GhostBlind State.eraseGhosts State.raceCheck :=
  .ite (fun _ => .rfl) ((leaveLoop_ghostBlind .collected).after afterDone_ghostBlind)
    (continueScan_ghostBlind.after afterDone_ghostBlind)

theorem inventoryAck_ghostBlind (f : Bytes) : GhostBlind State.eraseGhosts (State.inventoryAck f) := by
  refine .ite (fun _ => .rfl) ?count (raceCheck_ghostBlind.after fun _ => rfl)
  cases tagCountOf f <;> exact raceCheck_ghostBlind.after fun _ => rfl

theorem inventoryTag_ghostBlind (f : Bytes) : GhostBlind State.eraseGhosts (State.inventoryTag f) := by
  unfold State.inventoryTag
  cases itemOf f <;> exact raceCheck_ghostBlind.after fun _ => rfl

theorem inventoryOther_ghostBlind (f : Bytes) : GhostBlind State.eraseGhosts (State.inventoryOther f) :=
  raceCheck_ghostBlind.after fun _ => rfl

theorem inventoryFrame_ghostBlind (f : Bytes) : GhostBlind State.eraseGhosts (State.inventoryFrame f) :=
  .ite (fun _ => .rfl) (inventoryAck_ghostBlind f) <| .ite (fun _ => .rfl) (fun _ => rfl) <|
    .ite (fun _ => .rfl) (inventoryTag_ghostBlind f) (inventoryOther_ghostBlind f)

theorem inventoryScan_ghostBlind : GhostBlind State.eraseGhosts State.inventoryScan := by
  intro s
  unfold State.inventoryScan
  rw [eraseGhosts_rxByte, eraseGhosts_out]
  split
  · rfl
  · next f rest _ _ => exact inventoryFrame_ghostBlind f { s with out := rest }
  · rfl

theorem inventoryFinish_ghostBlind : GhostBlind State.eraseGhosts State.inventoryFinish :=
  .ite (fun _ => .rfl) (fun _ => rfl) fun _ => rfl

/-! ### Every instruction -/

theorem hostOp_ghostBlind (i : Instr) {body : State → State} (h : GhostBlind State.eraseGhosts body) :
    GhostBlind (mapNext State.eraseGhosts) (hostOp i body) :=
  .ite (fun _ => .rfl) (.ite (fun _ => .rfl) h.next fun _ => rfl) fun _ => rfl

theorem pureOp_ghostBlind (i : Instr) {start finish : State → State}
    (hs : GhostBlind State.eraseGhosts start) (hf : GhostBlind State.eraseGhosts finish) :
    GhostBlind (mapNext State.eraseGhosts) (pureOp i start finish) := by
  refine hostOp_ghostBlind i fun s => ?_
  rw [eraseGhosts_phase]
  cases s.phase with
  | start => exact congrArg (fun u => { u with phase := .finish }) (hs s)
  | finish => exact hf s
  | idle | send | check | poll | backoff | scan => rfl

theorem exchangeOp_ghostBlind (i : Instr) {start finish : State → State}
    (hs : GhostBlind State.eraseGhosts start) (hf : GhostBlind State.eraseGhosts finish) :
    GhostBlind (mapNext State.eraseGhosts) (exchangeOp i start finish) := by
  refine hostOp_ghostBlind i fun s => ?_
  rw [eraseGhosts_phase]
  cases s.phase with
  | start => exact hs s
  | send => exact sendRequest_ghostBlind s
  | check => exact checkDeadline_ghostBlind s
  | poll => exact pollByte_ghostBlind s
  | scan => exact exchangeScan_ghostBlind s
  | finish => exact hf s
  | idle | backoff => rfl

theorem execInventory_ghostBlind (b : Nat) : GhostBlind (mapNext State.eraseGhosts) (execInventory b) := by
  refine hostOp_ghostBlind _ fun s => ?_
  rw [eraseGhosts_phase]
  cases s.phase with
  | send => exact sendRequest_ghostBlind s
  | check => exact checkDeadline_ghostBlind s
  | poll => exact pollByte_ghostBlind s
  | backoff => exact raceCheck_ghostBlind.after (k := State.slept) (fun _ => rfl) s
  | scan => exact inventoryScan_ghostBlind s
  | finish => exact inventoryFinish_ghostBlind s
  | idle | start => rfl

theorem emitRequest_ghostBlind (f : Bytes) : GhostBlind (mapNext State.eraseGhosts) (emitRequest f) :=
  .ite (fun _ => .rfl) (transmit_ghostBlind f).next fun _ => rfl

theorem handleResponse_ghostBlind {exchange collect : State → State}
    (he : GhostBlind State.eraseGhosts exchange) (hc : GhostBlind State.eraseGhosts collect) :
    GhostBlind (mapNext State.eraseGhosts) (handleResponse exchange collect) :=
  .ite (fun _ => .rfl) (.ite (fun _ => .rfl) he.next <| .ite (fun _ => .rfl) hc.next fun _ => rfl) fun _ => rfl

theorem exec_ghostBlind (i : Instr) : GhostBlind (mapNext State.eraseGhosts) (exec i) := by
  cases i with
  | build | validate | lastframe | rbclr | feed | decmode | decnack =>
    exact pureOp_ghostBlind _ (fun _ => rfl) fun _ => rfl
  | transact => exact exchangeOp_ghostBlind _ (fun _ => rfl) transactFinish_ghostBlind
  | rdfw =>
    exact exchangeOp_ghostBlind _ (fun _ => rfl) (concludeExchange_ghostBlind rdfwFrame_ghostBlind)
  | rdmode =>
    exact exchangeOp_ghostBlind _ (fun _ => rfl) (concludeExchange_ghostBlind rdmodeFrame_ghostBlind)
  | wrmode => exact exchangeOp_ghostBlind _ (wrmodeStart_ghostBlind _) wrmodeFinish_ghostBlind
  | buzzer =>
    exact exchangeOp_ghostBlind _ (fun _ => rfl) (concludeExchange_ghostBlind ackFrame_ghostBlind)
  | inventory b => exact execInventory_ghostBlind b
  | reqRomver | reqRdmode | reqWrmode | reqInventory | reqBuzzer => exact emitRequest_ghostBlind _
  | rspAck =>
    exact handleResponse_ghostBlind (exchangeTerminal_ghostBlind _) (inventoryAck_ghostBlind _)
  | rspNack => exact handleResponse_ghostBlind (exchangeTerminal_ghostBlind _) fun _ => rfl
  | rspUid => exact handleResponse_ghostBlind (fun _ => rfl) (inventoryTag_ghostBlind _)
  | rspOther => exact handleResponse_ghostBlind (fun _ => rfl) (inventoryOther_ghostBlind _)

/-! ### The step -/

theorem fetchRequest_ghostBlind (r : Request) :
    GhostBlind (Fetched.map State.eraseGhosts) (fetchRequest r) := by
  intro s
  unfold fetchRequest
  split <;> rfl

theorem fetchSend_ghostBlind (b : Bytes) : GhostBlind (Fetched.map State.eraseGhosts) (fetchSend b) := by
  unfold fetchSend
  cases decode (.tx b) with
  | ok i => exact fun _ => rfl
  | error e => exact (transmit_ghostBlind b).settled

theorem fetchFrame_ghostBlind (f : Bytes) : GhostBlind (Fetched.map State.eraseGhosts) (fetchFrame f) := by
  unfold fetchFrame
  cases decode (.rx f) <;> exact fun _ => rfl

theorem fetchOperation_ghostBlind : GhostBlind (Fetched.map State.eraseGhosts) fetchOperation := by
  intro s
  unfold fetchOperation
  rw [eraseGhosts_op]
  cases s.op <;> rfl

theorem fetchBusy_ghostBlind : GhostBlind (Fetched.map State.eraseGhosts) fetchBusy := by
  intro s
  unfold fetchBusy
  rw [eraseGhosts_phase, eraseGhosts_requestBytes, eraseGhosts_rxByte, eraseGhosts_out]
  split
  · split
    · exact fetchSend_ghostBlind _ s
    · exact fetchOperation_ghostBlind s
  · split
    · next f rest _ _ => exact fetchFrame_ghostBlind f { s with out := rest }
    · exact fetchOperation_ghostBlind s
  all_goals exact fetchOperation_ghostBlind s

theorem fetchIdle_ghostBlind : GhostBlind (Fetched.map State.eraseGhosts) fetchIdle := by
  intro s
  unfold fetchIdle
  rw [eraseGhosts_program]
  cases s.program with
  | cons r rest => exact fetchRequest_ghostBlind r { s with program := rest }
  | nil => rfl

/-- A reset carries the ghost lists over without reading them (70_reset_and_hazards.md R313). -/
theorem fetchTicked_ghostBlind : GhostBlind (Fetched.map State.eraseGhosts) fetchTicked := by
  refine .ite (fun _ => .rfl) (fun _ => rfl) fun s => ?_
  rw [eraseGhosts_request, eraseGhosts_busy]
  split
  · next r _ =>
    split
    · rfl
    · exact fetchRequest_ghostBlind r { s with request := none }
  · split
    · exact fetchBusy_ghostBlind s
    · exact fetchIdle_ghostBlind s

theorem fetch_ghostBlind : GhostBlind (Fetched.map State.eraseGhosts) fetch :=
  fetchTicked_ghostBlind.after fun _ => rfl

/-- What the step answers for what was fetched. -/
def Fetched.outcome : Fetched → Host.Outcome State Fault Refusal
  | .run i s => exec i s
  | .settled s => .next s
  | .fault r => .fault r
  | .refused r => .refused r

theorem step_eq_outcome (s : State) : step s = (fetch s).outcome := by
  unfold step
  cases fetch s <;> rfl

theorem outcome_map_eraseGhosts (x : Fetched) :
    mapNext State.eraseGhosts (x.map State.eraseGhosts).outcome = mapNext State.eraseGhosts x.outcome := by
  cases x with
  | run i s => exact exec_ghostBlind i s
  | settled | fault | refused => rfl

/-- Settles O52: the fetch finds the same but for the ghost lists, and what it finds does the same but for them. -/
theorem theTraceIsNeverReadBack : Obligations.TheTraceIsNeverReadBack := by
  intro s
  rw [step_eq_outcome, step_eq_outcome, ← outcome_map_eraseGhosts, fetch_ghostBlind s, outcome_map_eraseGhosts]

end Machine

end Sys2Proof

namespace Sys2Proof

/-! Requests at a busy port, and that no state of the invariant stops the machine (60_exceptions.md R270, R290). -/

namespace Machine

section

variable {s : State} {i : Instr} {f : Bytes}

/-! ### While BUSY = 1 -/

/-- While another operation is in progress a host operation is turned away (60_exceptions.md R290). -/
theorem exec_turned_away (hi : i.isHostOp = true) (hb : s.busy = true) (ho : s.op ≠ some i) :
    exec i s = .next s.rejectBusy := by
  obtain ⟨body, hexec⟩ := exec_eq_hostOp hi
  rw [hexec, hostOp_other hb ho]

/-- What was fetched is no stop: the step answers a next state. -/
def Fetched.GoesOn (x : Fetched) : Prop := ∃ t, x.outcome = .next t

theorem step_next_of_goesOn (h : (fetch s).GoesOn) : ∃ t, step s = .next t := by
  rw [step_eq_outcome]
  exact h

theorem goesOn_run (i : Instr) (s : State) : (Fetched.run i s).GoesOn := exec_next i s

theorem goesOn_settled (s : State) : (Fetched.settled s).GoesOn := ⟨s, rfl⟩

theorem fetchOperation_goesOn (ho : s.op = some i) : (fetchOperation s).GoesOn := by
  rw [fetchOperation_some ho]
  exact goesOn_run i s

/-- In SEND the engine goes on whatever the bytes are. -/
theorem fetchSend_goesOn (b : Bytes) (s : State) : (fetchSend b s).GoesOn := by
  cases hd : decode (.tx b) with
  | ok i => rw [fetchSend_ok hd]; exact goesOn_run i s
  | error e => rw [fetchSend_error hd]; exact goesOn_settled _

/-- A valid frame is one of the four responses. -/
theorem fetchFrame_goesOn (hf : IsFrame f) (s : State) : (fetchFrame f s).GoesOn := by
  rw [fetchFrame_ok (if_pos hf)]
  exact goesOn_run _ s

/-- With an operation in progress and valid frames only, neither fault is met. -/
theorem fetchBusy_goesOn (ho : s.op = some i) (hout : ∀ f ∈ s.out, IsFrame f) : (fetchBusy s).GoesOn := by
  unfold fetchBusy
  split
  · split
    · exact fetchSend_goesOn _ s
    · exact fetchOperation_goesOn ho
  · split
    · next f rest _ heq => exact fetchFrame_goesOn (hout f (by simp [heq])) _
    · exact fetchOperation_goesOn ho
  all_goals exact fetchOperation_goesOn ho

/-! ### While BUSY = 0 -/

/-- A request offered to the idle machine is served, or its operands are no operands of its op code. -/
theorem step_offered {r : Request} {u : State} (h : fetch s = fetchRequest r u) :
    (∃ t, step s = .next t) ∨
      step s = .refused .operandShape ∧ ∃ e, decode (.host r) = .error e ∧ e ≠ .reservedOpCode := by
  cases hd : decode (.host r) with
  | ok i =>
    rw [step_run (h.trans (fetchRequest_ok hd))]
    exact .inl (exec_next i u)
  | error e =>
    by_cases he : e = .reservedOpCode
    · exact .inl ⟨_, step_settled (h.trans (fetchRequest_reserved (he ▸ hd)))⟩
    · exact .inr ⟨step_refused (h.trans (fetchRequest_refused hd he)), e, rfl, he⟩

end

/-! ### The statements of 60_exceptions.md -/

/-- Settles O48: under the invariant a busy machine goes on, and an idle one stops at misshapen operands only. -/
theorem noFaultInReachableStates : Obligations.NoFaultInReachableStates := by
  intro s hinv
  cases hreset : s.resetIn with
  | true => exact .inl ⟨_, step_reset hreset⟩
  | false =>
    cases hb : s.busy with
    | true =>
      refine .inl ?_
      cases hq : s.request with
      | some r => exact ⟨_, step_busy_request hreset hq hb⟩
      | none =>
        obtain ⟨i, ho⟩ := Option.isSome_iff_exists.1 (hinv.busyOp.1 hb)
        refine step_next_of_goesOn ?_
        rw [fetch_busy hreset hq hb]
        exact fetchBusy_goesOn (s := s.tick) ho hinv.out
    | false =>
      cases hq : s.request with
      | some r =>
        refine (step_offered (fetch_request hreset hq hb)).imp_right fun ⟨hstop, e, hd, he⟩ => ?_
        exact ⟨hstop, rfl, r, e, .inl rfl, hd, he⟩
      | none =>
        cases hp : s.program with
        | nil => exact .inl ⟨_, step_idle hreset hq hb hp⟩
        | cons r rest =>
          refine (step_offered (fetch_program hreset hq hb hp)).imp_right fun ⟨hstop, e, hd, he⟩ => ?_
          exact ⟨hstop, rfl, r, e, .inr ⟨rfl, rfl⟩, hd, he⟩

/-- Settles O4: the port tests BUSY before anything else, and so does every host operation. -/
theorem busyPortTurnsRequestsAway : Obligations.BusyPortTurnsRequestsAway := by
  intro s
  refine ⟨fun r hreset hq => ⟨fun hb => ?busy, fun i hb hd => ?idle⟩, fun i hi hb ho => ?other⟩
  case busy => exact step_busy_request hreset hq hb
  case idle =>
    refine ⟨State.accept i { s.tick with request := none }, ?_, rfl, rfl⟩
    rw [step_run ((fetch_request hreset hq hb).trans (fetchRequest_ok hd))]
    exact exec_accepts (decodeHost_isHostOp hd).1 hb
  case other => exact exec_turned_away hi hb ho

end Machine

end Sys2Proof

namespace Sys2Proof

/-! The reset input (70_reset_and_hazards.md R313), and that an operation ends if the time goes on (70_reset_and_hazards.md R330): each turn of the loop uses up remaining budget, and within a turn each step brings the next CHECK nearer. -/

namespace Machine

section

variable {s t : State} {i : Instr} {f : Bytes} {rest : List Bytes} {e : Env} {n k : Nat}

/-! ### The time left -/

/-- Each scripted answer of `Now()` lies at least 1 ms above the last, and at least `n` are scripted. -/
structure Env.TicksFor (n : Nat) (e : Env) : Prop where
  ticks : ∀ d ∈ e.nowQ, 1 ≤ d
  scripted : n ≤ e.nowQ.length

theorem Env.TicksFor.mono (h : e.TicksFor n) (hk : k ≤ n) : e.TicksFor k :=
  ⟨h.ticks, hk.trans h.scripted⟩

theorem Env.TicksFor.afterNow (h : e.TicksFor n) : e.afterNow.TicksFor (n - 1) where
  ticks := fun d hd => h.ticks d (List.mem_of_mem_tail hd)
  scripted := by
    rw [afterNow_nowQ, List.length_tail]
    exact Nat.sub_le_sub_right h.scripted 1

theorem Env.TicksFor.clock_lt (h : e.TicksFor n) (hn : 1 ≤ n) : e.clock < e.afterNow.clock := by
  obtain ⟨hticks, hscripted⟩ := h
  rw [afterNow_clock, Env.advance]
  cases hq : e.nowQ with
  | nil => simp [hq] at hscripted; omega
  | cons d q => have := hticks d (by simp [hq]); simp; omega

/-- The time left of the budget, by the last answer of `Now()` (10_state.md R27). -/
def State.remaining (s : State) : Nat := s.deadline - s.env.clock

/-- What the environment will answer to `Now()`. -/
def Env.time (e : Env) : Nat × List Nat := (e.clock, e.nowQ)

theorem Env.TicksFor.of_time {e' : Env} (h : e.TicksFor n) (ht : e'.time = e.time) : e'.TicksFor n := by
  obtain ⟨-, hq⟩ := Prod.mk.inj ht
  exact ⟨hq ▸ h.ticks, hq ▸ h.scripted⟩

theorem CheckPoint.time (h : CheckPoint s t) : t.env.time = s.env.time ∨ t.env.time = s.env.afterNow.time := by
  cases h with
  | leave he | goOn he => exact he.imp (congrArg Env.time) (congrArg Env.time)

/-- An engine step samples the time at most once (10_state.md R36). -/
theorem EngineStep.time (h : EngineStep s t) :
    t.env.time = s.env.time ∨ t.env.time = s.env.afterNow.time := by
  cases h with
  | exchangeStart | inventoryStart | late | inTime | inventoryByte => exact .inr rfl
  | checked _ hu ht => cases hu <;> exact ht.time
  | returned _ hu => cases hu <;> exact .inl rfl
  | _ => exact .inl rfl

/-- After START the time left never grows: DEADLINE stands, and the time does not go back. -/
theorem EngineStep.remaining_le (h : EngineStep s t) (hstart : s.phase ≠ .start) :
    t.remaining ≤ s.remaining := by
  rw [State.remaining, h.deadline hstart]
  exact Nat.sub_le_sub_left h.clock_le _

/-- A sample takes one scripted answer and, as long as time is left, at least 1 ms of it. -/
theorem EngineStep.ticksFor (h : EngineStep s t) (hstart : s.phase ≠ .start)
    (hticks : s.env.TicksFor s.remaining) : t.env.TicksFor t.remaining := by
  rcases h.time with ht | ht
  · exact (hticks.of_time ht).mono (h.remaining_le hstart)
  · refine (hticks.afterNow.of_time ht).mono ?_
    have hclock : t.env.clock = s.env.afterNow.clock := congrArg Prod.fst ht
    rw [State.remaining, h.deadline hstart, hclock]
    have hlt := hticks.clock_lt
    have hle := clock_le_afterNow s.env
    unfold State.remaining at hlt ⊢
    omega

/-- No engine step touches the port. -/
theorem EngineStep.quiet (h : EngineStep s t) (hq : s.Quiet) : t.Quiet := by
  cases h with
  | checked _ hu ht => cases hu <;> cases ht <;> exact hq
  | returned _ hu => cases hu <;> exact hq
  | _ => exact hq

/-! ### The place in the turn of the loop -/

/-- How far the phase lies before the next CHECK, or before FINISH (10_state.md R32). -/
def State.rank (s : State) : Nat :=
  match s.phase with
  | .start => 6
  | .send => 5
  | .poll => 4
  | .backoff => 3
  | .scan => if s.rxByte.isSome then 3 else 2
  | .check => 1
  | .finish | .idle => 0

/-- The place in the turn: the phase, and in the frame loop of SCAN the frames still to be handled. -/
def State.turn (s : State) : ℕ ×ₗ ℕ := toLex (s.rank, s.out.length)

theorem turn_lt_of_rank (h : t.rank < s.rank) : t.turn < s.turn := Prod.Lex.toLex_lt_toLex.2 (.inl h)

/-- From before the frame loop into it or past it. -/
theorem turn_lt_of_le_frames (ht : t.turn ≤ toLex (2, n)) (hs : 3 ≤ s.rank) : t.turn < s.turn :=
  ht.trans_lt (Prod.Lex.toLex_lt_toLex.2 (.inl hs))

theorem leaveLoop_turn (c : EndCause) (s : State) (n : Nat) : (s.leaveLoop c).turn ≤ toLex (2, n) :=
  Prod.Lex.toLex_le_toLex.2 (.inl (by decide : 0 < 2))

theorem continueScan_turn (hx : s.rxByte = none) : s.continueScan.turn ≤ toLex (2, s.out.length) := by
  rw [continueScan_eq]
  refine Prod.Lex.toLex_le_toLex.2 ?_
  by_cases hout : s.out = []
  · exact .inl (by simp [State.rank, hout])
  · exact .inr (by simp [State.rank, hout, hx])

theorem raceCheck_turn (hx : s.rxByte = none) : s.raceCheck.turn ≤ toLex (2, s.out.length) := by
  rcases raceCheck_cases s with ⟨-, h⟩ | ⟨-, h⟩ <;> rw [h]
  · exact leaveLoop_turn ..
  · rcases afterDone_eq s with h | h <;> rw [h]
    · exact continueScan_turn hx
    · exact continueScan_turn (s := s.sampled) hx

theorem exchangeFrame_turn (f : Bytes) (hx : s.rxByte = none) :
    (s.exchangeFrame f).turn ≤ toLex (2, s.out.length) := by
  have hgo : (s.accumulate f).continueScan.turn ≤ toLex (2, s.out.length) :=
    continueScan_turn (s := s.accumulate f) hx
  unfold State.exchangeFrame State.exchangeTerminal
  split
  · split
    · exact leaveLoop_turn ..
    · exact hgo
  · exact hgo

theorem inventoryFrame_turn (f : Bytes) (hx : s.rxByte = none) :
    (s.inventoryFrame f).turn ≤ toLex (2, s.out.length) := by
  have hack : (s.inventoryAck f).turn ≤ toLex (2, s.out.length) := by
    unfold State.inventoryAck
    split
    · split
      · exact raceCheck_turn (s := { s.note (.recv f) with expected := _ }) hx
      · exact raceCheck_turn (s := s.note (.recv f)) hx
    · exact raceCheck_turn (s := s.note (.recv f)) hx
  have htag : (s.inventoryTag f).turn ≤ toLex (2, s.out.length) := by
    unfold State.inventoryTag
    split
    · exact raceCheck_turn (s := (s.note (.recv f)).addItem _) hx
    · exact raceCheck_turn (s := s.note (.recv f)) hx
  unfold State.inventoryFrame
  split
  · exact hack
  · split
    · exact leaveLoop_turn ..
    · split
      · exact htag
      · exact raceCheck_turn (s := s.note (.recv f)) hx
theorem turn_lt_of_byte {b : Byte} (hp : s.phase = .scan) (hx : s.rxByte = some b) (ht : t.turn ≤ toLex (2, n)) :
    t.turn < s.turn :=
  turn_lt_of_le_frames ht (by simp [State.rank, hp, hx])

theorem turn_lt_of_frame (hf : s.Handles f rest) (ht : t.turn ≤ toLex (2, rest.length)) : t.turn < s.turn := by
  obtain ⟨hp, hx, hout⟩ := hf
  refine ht.trans_lt (Prod.Lex.toLex_lt_toLex.2 (.inr ?_))
  simp [State.rank, hp, hx, hout]

theorem turn_lt_of_no_frame (hp : s.phase = .scan) : State.turn { s with phase := .check } < s.turn := by
  refine turn_lt_of_rank ?_
  simp only [State.rank, hp]
  split <;> decide

theorem exchangeScan_turn_lt (hp : s.phase = .scan) : s.exchangeScan.turn < s.turn := by
  cases hx : s.rxByte with
  | some b =>
    rw [exchangeScan_byte hx]
    exact turn_lt_of_byte hp hx (continueScan_turn (s := s.feedByte b) rfl)
  | none =>
    cases hout : s.out with
    | nil => rw [exchangeScan_empty hx hout]; exact turn_lt_of_no_frame hp
    | cons f rest =>
      rw [exchangeScan_frame hx hout]
      exact turn_lt_of_frame ⟨hp, hx, hout⟩ (exchangeFrame_turn (s := { s with out := rest }) f hx)

theorem inventoryScan_turn_lt (hp : s.phase = .scan) : s.inventoryScan.turn < s.turn := by
  cases hx : s.rxByte with
  | some b =>
    rw [inventoryScan_byte hx]
    exact turn_lt_of_byte hp hx (continueScan_turn (s := State.feedByte b _) rfl)
  | none =>
    cases hout : s.out with
    | nil => rw [inventoryScan_empty hx hout]; exact turn_lt_of_no_frame hp
    | cons f rest =>
      rw [inventoryScan_frame hx hout]
      exact turn_lt_of_frame ⟨hp, hx, hout⟩ (inventoryFrame_turn (s := { s with out := rest }) f hx)

theorem transmit_turn_lt (b : Bytes) (hp : s.phase = .send) : (s.transmit b).turn < s.turn := by
  refine turn_lt_of_rank ?_
  rcases (transmit_writes_once b s).2 with h | h <;> simp [State.rank, h, hp]

theorem pollByte_turn_lt (hp : s.phase = .poll) : s.pollByte.turn < s.turn := by
  refine turn_lt_of_rank ?_
  rcases pollByte_cases s with ⟨-, h⟩ | ⟨b, -, h⟩ <;> simp [State.rank, h, hp]

/-- SEND, POLL, BACKOFF and SCAN each bring the next CHECK, or FINISH, nearer. -/
theorem exec_turn_lt (hi : i.usesTransport = true) (h : s.At i s.phase) (hx : s.phase = .backoff → s.rxByte = none)
    (hp : s.phase = .send ∨ s.phase = .poll ∨ s.phase = .backoff ∨ s.phase = .scan) (he : exec i s = .next t) :
    t.turn < s.turn := by
  obtain ⟨hb, ho, -⟩ := h
  rcases hp with hp | hp | hp | hp
  · obtain ⟨b, hr⟩ := requestBytes_of_usesTransport hi ho
    cases (exec_send hi ⟨hb, ho, hp⟩).symm.trans he
    rw [sendRequest_some hr]
    exact transmit_turn_lt b hp
  · cases (exec_poll hi ⟨hb, ho, hp⟩).symm.trans he
    exact pollByte_turn_lt hp
  · have hrank : 3 ≤ s.rank := by simp [State.rank, hp]
    cases hex : i.isExchange with
    | true =>
      cases (exec_backoff_exchange hex ⟨hb, ho, hp⟩).symm.trans he
      exact turn_lt_of_rank ((by decide : 1 < 3).trans_le hrank)
    | false =>
      obtain ⟨b, rfl⟩ := Instr.eq_inventory_of_not_isExchange hi hex
      cases (execInventory_backoff ⟨hb, ho, hp⟩).symm.trans he
      exact turn_lt_of_le_frames (raceCheck_turn (s := s.slept) (hx hp)) hrank
  · cases hex : i.isExchange with
    | true =>
      cases (exec_scan_exchange hex ⟨hb, ho, hp⟩).symm.trans he
      exact exchangeScan_turn_lt hp
    | false =>
      obtain ⟨b, rfl⟩ := Instr.eq_inventory_of_not_isExchange hi hex
      cases (execInventory_scan ⟨hb, ho, hp⟩).symm.trans he
      exact inventoryScan_turn_lt hp

/-! ### START and FINISH -/

theorem pureOp_finish {start finish : State → State} (h : s.At i .finish) :
    pureOp i start finish s = .next (finish s) := by
  obtain ⟨hb, ho, hp⟩ := h
  simp [pureOp, hostOp_running hb ho, hp]

/-- FINISH of every host operation is its return (10_state.md R32). -/
theorem exec_finish_returned (hi : i.isHostOp = true) (h : s.At i .finish) (he : exec i s = .next t) :
    t.Returned := by
  cases i with
  | build | validate | lastframe | rbclr | feed | decmode | decnack =>
    simp only [exec, execBuild, execValidate, execLastframe, execRbclr, execFeed, execDecmode, execDecnack,
      pureOp_finish h] at he
    cases he
    exact finish_returned ..
  | transact => cases (exchangeOp_finish h).symm.trans he; exact transactFinish_returned s
  | rdfw => cases (exchangeOp_finish h).symm.trans he; exact concludeExchange_returned rdfwFrame_returned s
  | rdmode => cases (exchangeOp_finish h).symm.trans he; exact concludeExchange_returned rdmodeFrame_returned s
  | wrmode => cases (exchangeOp_finish h).symm.trans he; exact wrmodeFinish_returned s
  | buzzer => cases (exchangeOp_finish h).symm.trans he; exact concludeExchange_returned ackFrame_returned s
  | inventory => cases (execInventory_finish h).symm.trans he; exact inventoryFinish_returned s
  | _ => exact nomatch hi

/-- START skips the loop, or leaves the whole budget, counted from one sample (42_transactor.md R172, 44_inventory.md R221). -/
theorem exec_start_cases (hi : i.isHostOp = true) (h : s.At i .start) (he : exec i s = .next t) :
    t.phase = .finish ∨ t.remaining = i.budget ∧ t.env = s.env.afterNow := by
  cases hpure : i.isPure with
  | true =>
    obtain ⟨start, finish, hexec⟩ := exec_eq_pureOp hpure
    cases (pureOp_start h).symm.trans ((hexec s).symm.trans he)
    exact .inl rfl
  | false =>
    have htransport := Instr.usesTransport_of_not_isPure hi hpure
    cases i with
    | transact | rdfw | rdmode | buzzer =>
      cases (exchangeOp_start h).symm.trans he
      exact .inr ⟨Nat.add_sub_cancel_left .., rfl⟩
    | inventory =>
      cases (execInventory_start h).symm.trans he
      exact .inr ⟨Nat.add_sub_cancel_left .., rfl⟩
    | wrmode b =>
      cases (exchangeOp_start h).symm.trans he
      unfold State.wrmodeStart
      split
      · exact .inl rfl
      · exact .inr ⟨Nat.add_sub_cancel_left .., rfl⟩
    | _ => exact nomatch htransport

/-! ### The step -/

/-- Under the invariant a step at a quiet port is a step of the operation in progress, in SEND and in the frame loop, too (30_encoding.md R116). -/
theorem step_eq_exec (hinv : s.Inv) (hq : s.Quiet) (ho : s.op = some i) : step s = exec i s.tick := by
  have hat := hinv.standsAt ho
  obtain ⟨hrun, -, hframe, -⟩ := stepContinuesTheOperation s hq.1 hq.2
  obtain ⟨-, hscan⟩ := wireLevelAgreesWithOperation s.tick i { hinv with } ho
  cases hp : s.phase with
  | send =>
    have hi := hinv.usesTransport ho (by simp [hp]) (by simp [hp])
    obtain ⟨b, hr⟩ := requestBytes_of_usesTransport hi ho
    rw [step_send_transmits hq.1 hq.2 hat.1 hp hr, exec_send (s := s.tick) hi (hp ▸ hat),
      sendRequest_some (s := s.tick) hr]
  | scan =>
    cases hx : s.rxByte with
    | some b => exact hrun i hat.1 ho (by simp [hp, hx])
    | none =>
      cases hout : s.out with
      | nil => exact hrun i hat.1 ho (by simp [hp, hout])
      | cons f rest =>
        have hd : decode (.rx f) = .ok _ := if_pos (hinv.out f (by simp [hout]))
        rw [hframe f rest _ hat.1 hp hx hout hd]
        exact (hscan f rest _ hp hx hout hd).symm
  | idle | start | check | poll | backoff | finish => exact step_plain hq hat (by simp [hp]) (by simp [hp])

/-! ### The countdown -/

/-- What falls with each engine step after START: the time left, and while it stays the same the place in the turn. -/
def State.countdown (s : State) : ℕ ×ₗ ℕ ×ₗ ℕ := toLex (s.remaining, s.turn)

theorem countdown_lt_of_turn (hle : t.remaining ≤ s.remaining) (hlt : t.turn < s.turn) :
    t.countdown < s.countdown :=
  Prod.Lex.toLex_lt_toLex.2 (hle.lt_or_eq.imp_right fun heq => ⟨heq, hlt⟩)

/-- CHECK leaves the loop, or a sample before the deadline has used up time (42_transactor.md R176). -/
theorem checkDeadline_countdown_lt (hp : s.phase = .check) (hticks : s.env.TicksFor s.remaining) :
    s.checkDeadline.countdown < s.countdown := by
  rcases checkDeadline_cases s with ⟨-, h⟩ | ⟨hearly, h⟩ <;> rw [h]
  · refine countdown_lt_of_turn (Nat.sub_le_sub_left (clock_le_afterNow s.env) _) (turn_lt_of_rank ?_)
    simp [State.rank, hp]
  · have hle := clock_le_afterNow s.env
    have hlt := hticks.clock_lt (Nat.sub_pos_of_lt (hle.trans_lt hearly))
    exact Prod.Lex.toLex_lt_toLex.2 (.inl (Nat.sub_lt_sub_left (hle.trans_lt hearly) hlt))

/-- After START each step of the operation in progress lowers the countdown, or is the return. -/
theorem exec_returned_or_countdown_lt (hinv : s.Inv) (ho : s.op = some i) (hstart : s.phase ≠ .start)
    (hticks : s.env.TicksFor s.remaining) (he : exec i s = .next t) :
    t.Returned ∨ t.countdown < s.countdown := by
  have hat := hinv.standsAt ho
  have hle : t.remaining ≤ s.remaining := (exec_engineStep he hat.1 ho).remaining_le hstart
  have hturn (hp : s.phase = .send ∨ s.phase = .poll ∨ s.phase = .backoff ∨ s.phase = .scan) :
      t.countdown < s.countdown := by
    refine countdown_lt_of_turn hle (exec_turn_lt ?_ hat ?_ hp he)
    · exact hinv.usesTransport ho hstart (by rcases hp with hp | hp | hp | hp <;> simp [hp])
    · exact fun hb => (inv_iff.1 hinv).2.rxByte_eq (by simp [hb])
  cases hp : s.phase with
  | idle => exact absurd hp (hinv.busyPhase.1 hat.1)
  | start => exact absurd hp hstart
  | finish => exact .inl (exec_finish_returned (hinv.opHost i ho).1 (hp ▸ hat) he)
  | check =>
    cases (exec_check (hinv.usesTransport ho hstart (by simp [hp])) (hp ▸ hat)).symm.trans he
    exact .inr (checkDeadline_countdown_lt hp hticks)
  | send | poll | backoff | scan => exact .inr (hturn (by simp [hp]))

/-! ### Runs -/

/-- An operation is in progress and past START, nothing comes in at the port, and time enough is scripted. -/
structure State.Underway (s : State) : Prop where
  inv : s.Inv
  quiet : s.Quiet
  busy : s.busy = true
  started : s.phase ≠ .start
  ticks : s.env.TicksFor s.remaining

/-- What a step at a quiet port does while an operation is in progress. -/
theorem step_busy (hinv : s.Inv) (hq : s.Quiet) (ho : s.op = some i) :
    ∃ t, step s = .next t ∧ exec i s.tick = .next t ∧ EngineStep s.tick t ∧ t.Inv ∧ t.phase ≠ .start := by
  have hb := (hinv.standsAt ho).1
  obtain ⟨t, he⟩ := exec_next i s.tick
  have hs : step s = .next t := (step_eq_exec hinv hq ho).trans he
  exact ⟨t, hs, he, step_engineStep hq.1 hq.2 hb hs, stepKeepsTheInvariant s t hinv hs,
    step_busy_leaves_start hinv hq.1 hq.2 hb hs⟩

theorem State.Underway.step (h : s.Underway) :
    ∃ t, Machine.step s = .next t ∧ (t.Returned ∨ t.Underway ∧ t.countdown < s.countdown) := by
  obtain ⟨i, ho⟩ := Option.isSome_iff_exists.1 (h.inv.busyOp.1 h.busy)
  obtain ⟨t, hs, he, hstep, hinv, hstarted⟩ := step_busy h.inv h.quiet ho
  refine ⟨t, hs, ?_⟩
  rcases step_running_or_returned h.quiet.1 h.busy hs with hrun | hret
  · refine (exec_returned_or_countdown_lt (s := s.tick) { h.inv with } ho h.started h.ticks he).imp_right fun hlt => ?_
    exact ⟨⟨hinv, hstep.quiet h.quiet, hrun.1, hstarted, hstep.ticksFor h.started h.ticks⟩, hlt⟩
  · exact .inl hret

/-- Some run ends in the return of an operation. -/
def State.Ends (s : State) : Prop := ∃ n t, Host.Core.run Sys2Proof.core n s = .next t ∧ t.Returned

theorem ends_of_returned (h : s.Returned) : s.Ends := ⟨0, s, rfl, h⟩

theorem ends_of_step (hs : step s = .next t) (ht : t.Ends) : s.Ends := by
  obtain ⟨n, u, hrun, hu⟩ := ht
  exact ⟨n + 1, u, (run_succ hs).trans hrun, hu⟩

/-- The countdown cannot fall for ever. -/
theorem State.Underway.ends (h : s.Underway) : s.Ends := by
  induction hc : s.countdown using WellFoundedLT.induction generalizing s with
  | ind c ih =>
    obtain ⟨t, hs, hret | ⟨ht, hlt⟩⟩ := h.step
    · exact ends_of_step hs (ends_of_returned hret)
    · exact ends_of_step hs (ih _ (hc ▸ hlt) ht rfl)

theorem ends_of_finish (hinv : s.Inv) (hq : s.Quiet) (ho : s.op = some i) (hp : s.phase = .finish) : s.Ends := by
  obtain ⟨t, hs, he, -⟩ := step_busy hinv hq ho
  exact ends_of_step hs (ends_of_returned
    (exec_finish_returned (s := s.tick) (hinv.opHost i ho).1 (hp ▸ hinv.standsAt ho) he))

/-- From START the whole budget has to be scripted, and the sample that fixes the deadline. -/
theorem ends_of_start (hinv : s.Inv) (hq : s.Quiet) (ho : s.op = some i) (hp : s.phase = .start)
    (hticks : s.env.TicksFor (i.budget + 1)) : s.Ends := by
  have hat := hinv.standsAt ho
  obtain ⟨t, hs, he, hstep, htinv, hstarted⟩ := step_busy hinv hq ho
  refine ends_of_step hs ?_
  rcases step_running_or_returned hq.1 hat.1 hs with hrun | hret
  · obtain ⟨j, hj⟩ := Option.isSome_iff_exists.1 (htinv.busyOp.1 hrun.1)
    rcases exec_start_cases (s := s.tick) (hinv.opHost i ho).1 (hp ▸ hat) he with hfin | ⟨hrem, henv⟩
    · exact ends_of_finish htinv (hstep.quiet hq) hj hfin
    · have ht : t.env.TicksFor t.remaining := by rw [hrem, henv]; exact hticks.afterNow
      exact State.Underway.ends ⟨htinv, hstep.quiet hq, hrun.1, hstarted, ht⟩
  · exact ends_of_returned hret

end

/-! ### The statements of 70_reset_and_hazards.md -/

/-- Settles O54: the input is obeyed first; what it leaves is the state at reset with what is outside the block. -/
theorem resetInputAbandonsTheOperation : Obligations.ResetInputAbandonsTheOperation :=
  fun _ hreset => ⟨step_reset hreset, rfl, rfl⟩

/-- Settles O55: START leaves a budget the scripted answers cover, after it the countdown falls until the return. -/
theorem everyOperationEnds : Obligations.EveryOperationEnds := by
  intro s i hinv ho hreset hreq hticks hscripted
  have hq : s.Quiet := ⟨hreset, hreq⟩
  have henough {n : Nat} (hn : n ≤ s.remaining + i.budget + 1) : s.env.TicksFor n :=
    ⟨hticks, by unfold State.remaining at hn; omega⟩
  have hends : s.Ends := by
    by_cases hp : s.phase = .start
    · exact ends_of_start hinv hq ho hp (henough (by omega))
    · exact State.Underway.ends ⟨hinv, hq, (hinv.standsAt ho).1, hp, henough (by omega)⟩
  obtain ⟨n, t, hrun, hdone, hbusy, -, -⟩ := hends
  exact ⟨n, t, hrun, hbusy, hdone⟩

end Machine

end Sys2Proof
